-- ==== Sys2Proof/Word.lean ====
section
/-! DEFINITION. The word types of the WB1640: bytes, the 64 byte lanes of a line or a data bus, byte masks, byte addresses, lines and pages (spec 00 section 5.1). -/

namespace Sys2Proof

/-- One byte. -/
abbrev Byte := BitVec 8

/-- The 64 byte lanes of a data bus, or the 64 bytes of a line: lane `i` carries the byte of line offset `i` (spec 11 section 11.1). -/
abbrev Lanes := Vector Byte 64

/-- A valid mask or lost-byte mask: bit `i` is the flag of line byte `i` (spec 00 section 5.1; R192 gives the bit positions). -/
abbrev ByteMask := BitVec 64

/-- A byte address of the memory path (40 bits). -/
abbrev Addr := BitVec 40

/-- A line, named by its line address without the six low bits, which are always zero. -/
abbrev Line := BitVec 34

/-- A 4 KiB page number, 0000000h to FFFFFFFh. -/
abbrev Page := BitVec 28

end Sys2Proof
end

