-- ==== Sys2Proof/Syntax.lean ====
section
/-! DEFINITION. The commands of the WB1640: one constructor of Instr per row of spec/opcode_table.json, with the operands the rule of the row gives it. The operands are the model's reading of each row (log entry 3), since the table lists none. -/

namespace Sys2Proof

/-- An initiator tag, 0 to 31 (R1). -/
abbrev Tag := Fin 32
/-- A memory tag, 0 to 15: the index of a tracker entry (R115). -/
abbrev MemTag := Fin 16
/-- The index of a combining slot, 0 to 15 (R18). -/
abbrev SlotIx := Fin 16
/-- The index of a prefetch entry, 0 to 3 (R100). -/
abbrev PfIx := Fin 4

/-- A message presented on the initiator request channel: IREQ_HDR and IREQ_DATA (spec 11 section 11.1). -/
structure IReqMsg where
  hdr : BitVec 56
  data : Lanes
  deriving DecidableEq, Repr

/-- The commands of the block, one per row of spec/opcode_table.json. -/
inductive Instr where
  /-- REQUEST_PRESENTED (R2, R178): `some m`, the message at the head of the link is now `m` and is examined. `none`, the initiator withdraws what it presented. -/
  | requestPresented (msg : Option IReqMsg)
  /-- RESPONSE_SENT (R179): the initiator gives IRSP_READY while a response is presented. -/
  | responseSent
  /-- HOLD_TIMER_EXPIRY (R27) of slot `i`. -/
  | holdTimerExpiry (i : SlotIx)
  /-- MREQ_READY_RISE (R180). -/
  | mreqReadyRise
  /-- MREQ_READY_FALL (R180). -/
  | mreqReadyFall
  /-- GRANT (R148): one grant event of the arbiter. -/
  | grant
  /-- DONE (R121) for memory tag `m`, with MRSP_DATA. -/
  | done (m : MemTag) (data : Lanes)
  /-- DEFER (R122) for memory tag `m`. -/
  | defer (m : MemTag)
  /-- FAULT (R125) for memory tag `m`. -/
  | fault (m : MemTag)
  /-- BAD_RESP (R188): a response of undefined kind naming memory tag `m`. -/
  | badResp (m : MemTag)
  /-- RESPONSE_TIMER_EXPIRY (R126) of tracker entry `m`. -/
  | responseTimerExpiry (m : MemTag)
  /-- BACKOFF_TIMER_EXPIRY (R124) of tracker entry `m`. -/
  | backoffTimerExpiry (m : MemTag)
  /-- RECLAIM_TIMER_EXPIRY (R130) of tracker entry `m`. -/
  | reclaimTimerExpiry (m : MemTag)
  /-- DRN_REQ_RISE (R157). -/
  | drnReqRise
  /-- DRN_REQ_FALL (R157). -/
  | drnReqFall
  /-- COMMIT (R159): the byte 01h written at the command register. This and the next twelve are data bytes of a write transfer (R189). With `follows` false, the default, the command begins the transfer: the start, the port's own address and the register's index come before the byte. With `follows` true the byte is the next one of the transfer in progress, written where the index pointer stands. -/
  | commit (follows : Bool := false)
  /-- DP_RESET (R194): the byte 02h written at the command register. -/
  | dpReset (follows : Bool := false)
  /-- DP_RESET_FORCE (R195): the byte 03h written at the command register. -/
  | dpResetForce (follows : Bool := false)
  /-- LOG_POP (R169): the byte 04h written at the command register. -/
  | logPop (follows : Bool := false)
  /-- LOG_CLEAR_OVF (R170): the byte 05h written at the command register. -/
  | logClearOvf (follows : Bool := false)
  /-- PROTO_CLEAR (R193): the byte 06h written at the command register. -/
  | protoClear (follows : Bool := false)
  /-- UNKNOWN_COMMAND (R193): a byte with an unassigned code written at the command register. -/
  | unknownCommand (code : Byte) (follows : Bool := false)
  /-- INTERRUPT_STATUS_WRITE (R174): a byte written at index 18h. -/
  | interruptStatusWrite (value : Byte) (follows : Bool := false)
  /-- INTERRUPT_MASK_WRITE (R175): a byte written at index 19h. -/
  | interruptMaskWrite (value : Byte) (follows : Bool := false)
  /-- RESPONSE_TIMEOUT_LOW_WRITE (R190): a byte written at index 0Ch. -/
  | responseTimeoutLowWrite (value : Byte) (follows : Bool := false)
  /-- RESPONSE_TIMEOUT_HIGH_WRITE (R190): a byte written at index 0Dh. -/
  | responseTimeoutHighWrite (value : Byte) (follows : Bool)
  /-- STAGED_TABLE_WRITE (R160): a byte written at a register of the staged table. -/
  | stagedTableWrite (index value : Byte) (follows : Bool)
  /-- REGISTER_WRITE (R190): a byte written at any other index. -/
  | registerWrite (index value : Byte) (follows : Bool)
  /-- INDEX_POINTER_WRITE (R189): the address byte `addr` with the write bit, and the first data byte `index`. -/
  | indexPointerWrite (addr : BitVec 7) (index : Byte)
  /-- LOG_HEAD_READ (R168): the byte at which a read transfer reaches the log head. `start` is the address byte of a transfer that begins with this byte, none where the byte is the next one of the transfer in progress; `more` is the master's acknowledge: true where a further byte of the transfer follows. -/
  | logHeadRead (start : Option (BitVec 7)) (more : Bool)
  /-- POWER_ON_RESET (R197): the part is reset; `held`, the reset is still held when the command ends; otherwise it ends, and samples the straps and the level of DRN_REQ. -/
  | powerOnReset (held : Bool) (straps : BitVec 2) (drnReq : Bool)
  /-- AGE_COUNT_TICK (R46): one tick of the part's time base. -/
  | ageCountTick
  /-- READ_TRANSFER (R189): one byte of a read transfer; `start` and `more` as above. -/
  | readTransfer (start : Option (BitVec 7)) (more : Bool)
  deriving DecidableEq, Repr

end Sys2Proof
end

