-- ==== Sys2Proof/WellFormed.lean ====
section
/-! DEFINITION. Which commands are well formed: the operand of a management write names a register of its row (R190, R192, R193). The other rows admit every value of their operands. -/

namespace Sys2Proof

/-- The staged table's registers (R160, R192): the staged default class at 0Eh, and bytes 0 to 9 of each staged window record. -/
def isStagedIndex (i : Byte) : Bool :=
  i == 0x0E || (0x50 ≤ i.toNat && i.toNat < 0xD0 && (i.toNat - 0x50) % 16 < 10)

/-- The indices that have a row of their own in the command table: the response timeout's two bytes, the command register, the interrupt status and the interrupt mask. -/
def hasOwnRow (i : Byte) : Bool :=
  i == 0x0C || i == 0x0D || i == 0x10 || i == 0x18 || i == 0x19

/-- The assigned command codes of R193. -/
def isCommandCode (c : Byte) : Bool :=
  1 ≤ c.toNat && c.toNat ≤ 6

/-- The well-formed commands. -/
def Instr.wf : Instr → Bool
  | .unknownCommand code _ => !isCommandCode code
  | .stagedTableWrite index _ _ => isStagedIndex index
  | .registerWrite index _ _ => !isStagedIndex index && !hasOwnRow index
  | .requestPresented _ => true
  | .responseSent => true
  | .holdTimerExpiry _ => true
  | .mreqReadyRise => true
  | .mreqReadyFall => true
  | .grant => true
  | .done _ _ => true
  | .defer _ => true
  | .fault _ => true
  | .badResp _ => true
  | .responseTimerExpiry _ => true
  | .backoffTimerExpiry _ => true
  | .reclaimTimerExpiry _ => true
  | .drnReqRise => true
  | .drnReqFall => true
  | .commit _ => true
  | .dpReset _ => true
  | .dpResetForce _ => true
  | .logPop _ => true
  | .logClearOvf _ => true
  | .protoClear _ => true
  | .interruptStatusWrite _ _ => true
  | .interruptMaskWrite _ _ => true
  | .responseTimeoutLowWrite _ _ => true
  | .responseTimeoutHighWrite _ _ => true
  | .indexPointerWrite _ _ => true
  | .logHeadRead _ _ => true
  | .powerOnReset _ _ _ => true
  | .ageCountTick => true
  | .readTransfer _ _ => true

end Sys2Proof
end

