-- ==== Sys2Proof/Decode.lean ====
section
/-! DEFINITION. From what stands on the wires to commands. spec/opcode_table.json gives no row any bits, so decodeTableWord reads no word. What the spec does encode is decoded here: the memory response message of R186 and R188, and the byte written at a management index of R190, R192 and R193, each with the encoder beside it. -/

namespace Sys2Proof

/-- The command a word of the table spells: none, since the table gives no row any bits. -/
def decodeTableWord (_nbits _w : Nat) : Option Instr := none

/-- R186: the command a message on the memory response channel stands for. Kind in bits 1:0, memory tag in bits 5:2; kind 11b is undefined (R188). -/
def mrspCommand (hdr : BitVec 6) (data : Lanes) : Instr :=
  let m : MemTag := Fin.ofNat 16 (hdr.extractLsb' 2 4).toNat
  match (hdr.extractLsb' 0 2).toNat with
  | 0 => .done m data
  | 1 => .defer m
  | 2 => .fault m
  | _ => .badResp m

/-- R186: the header of the memory response a command stands for; none for a command that is no memory response. -/
def mrspHeader : Instr → Option (BitVec 6)
  | .done m _ => some (BitVec.ofNat 4 m.val ++ 0#2)
  | .defer m => some (BitVec.ofNat 4 m.val ++ 1#2)
  | .fault m => some (BitVec.ofNat 4 m.val ++ 2#2)
  | .badResp m => some (BitVec.ofNat 4 m.val ++ 3#2)
  | _ => none

/-- R193: the command a byte written at the command register selects. -/
def commandOfCode (c : Byte) (follows : Bool) : Instr :=
  match c.toNat with
  | 1 => .commit follows
  | 2 => .dpReset follows
  | 3 => .dpResetForce follows
  | 4 => .logPop follows
  | 5 => .logClearOvf follows
  | 6 => .protoClear follows
  | _ => .unknownCommand c follows

/-- A data byte of a write transfer: the index it is written at, its value, and whether it is the next byte of the transfer in progress. -/
structure PortByte where
  index : Byte
  value : Byte
  follows : Bool
  deriving DecidableEq, Repr

/-- R190, R192, R193: the command that a data byte is. -/
def portCommand (b : PortByte) : Instr :=
  if b.index == 0x10 then commandOfCode b.value b.follows
  else if b.index == 0x18 then .interruptStatusWrite b.value b.follows
  else if b.index == 0x19 then .interruptMaskWrite b.value b.follows
  else if b.index == 0x0C then .responseTimeoutLowWrite b.value b.follows
  else if b.index == 0x0D then .responseTimeoutHighWrite b.value b.follows
  else if isStagedIndex b.index then .stagedTableWrite b.index b.value b.follows
  else .registerWrite b.index b.value b.follows

/-- The data byte that a management write command is; none for a command that is no data byte of a write transfer. -/
def portByte : Instr → Option PortByte
  | .commit follows => some { index := 0x10, value := 0x01, follows := follows }
  | .dpReset follows => some { index := 0x10, value := 0x02, follows := follows }
  | .dpResetForce follows => some { index := 0x10, value := 0x03, follows := follows }
  | .logPop follows => some { index := 0x10, value := 0x04, follows := follows }
  | .logClearOvf follows => some { index := 0x10, value := 0x05, follows := follows }
  | .protoClear follows => some { index := 0x10, value := 0x06, follows := follows }
  | .unknownCommand c follows => some { index := 0x10, value := c, follows := follows }
  | .interruptStatusWrite v follows => some { index := 0x18, value := v, follows := follows }
  | .interruptMaskWrite v follows => some { index := 0x19, value := v, follows := follows }
  | .responseTimeoutLowWrite v follows => some { index := 0x0C, value := v, follows := follows }
  | .responseTimeoutHighWrite v follows => some { index := 0x0D, value := v, follows := follows }
  | .stagedTableWrite i v follows => some { index := i, value := v, follows := follows }
  | .registerWrite i v follows => some { index := i, value := v, follows := follows }
  | _ => none

end Sys2Proof
end

