-- ==== Sys2Proof/Config.lean ====
section
/-! DEFINITION. What the part fixes: the power-on defaults of the register summary (R192, R9, R147), and the three levels the model names for the state right after reset where the spec leaves them to the board (log entries 1 and 2). The spec leaves no result value of any command open, so no free value stands here. -/

namespace Sys2Proof.Config

/-- R192, index 00h. -/
def vendorCode : Byte := 0x46
/-- R192, indices 01h (low byte) and 02h (high byte). -/
def partCode : BitVec 16 := 0x1640
/-- R192, index 03h. -/
def revision : Byte := 0x01
/-- R147, R192: default of the high watermark, 12 slots. -/
def highWatermark : Byte := 0x0C
/-- R147, R192: default of the promotion time, 32 ticks. -/
def promotionTime : Byte := 0x20
/-- R122, R192: default of the retry limit. -/
def retryLimit : Byte := 0x07
/-- R123, R192: default of the backoff base, 2 ticks. -/
def backoffBase : Byte := 0x02
/-- R119, R192: default of the response timeout, 500 ticks. -/
def responseTimeout : BitVec 16 := 0x01F4
/-- R9, R192: default of the default hold time and of every window's hold time, 8 ticks. -/
def holdTime : Byte := 0x08
/-- R176, R192: every interrupt mask bit is set after reset. -/
def interruptMask : BitVec 5 := 0x1F

/-- DESIGN CHOICE (log entry 2, unsafe): the ADR[1:0] straps that `State.reset` has sampled. -/
def resetStraps : BitVec 2 := 0
/-- DESIGN CHOICE (log entry 1, unsafe): the level of MREQ_READY in `State.reset`. -/
def resetMreqReady : Bool := false

end Sys2Proof.Config
end

