-- ==== Sys2Proof/Machine/State.lean ====
section
/-! DEFINITION. The state of the WB1640, block by block (spec 00 section 3), as plain data; the outcome types; the state right after reset; and one named update per block. -/

namespace Sys2Proof.Machine

/-! ### Acceptance unit (chapter 1) -/

/-- The class of an address (R8). -/
inductive AccessClass where
  | combine | sequence | direct | reject
  deriving DecidableEq, Repr

/-- The window index a classification gives: 0 to 7, or DEFAULT (R7). -/
inductive WindowIndex where
  | win (n : Fin 8)
  | default
  deriving DecidableEq, Repr

/-- READ or WRITE (R1, R76). -/
inductive AccessOp where
  | read | write
  deriving DecidableEq, Repr

/-- The state of an entry of the upstream tag table (R1). -/
inductive TagState where
  | free | read | confirmWrite | fence | direct (op : AccessOp) | responding
  deriving DecidableEq, Repr

/-- The reason of an ERROR answer (R184). -/
inductive Reason where
  | rejected | malformed | memory | reset
  deriving DecidableEq, Repr

/-- One response of the response queue (R16, R184). The data lanes outside the read's span are zero. -/
inductive Response where
  | rdataOk (tag : Tag) (data : Lanes)
  | rdataError (tag : Tag) (reason : Reason)
  | wackOk (tag : Tag)
  | wackError (tag : Tag) (reason : Reason)
  | fack (tag : Tag) (loss : Bool)
  deriving DecidableEq, Repr

/-- The kinds of the initiator-side capture (R6). -/
inductive RequestError where
  | tagInUse | badOp | badSpan
  deriving DecidableEq, Repr

/-- A captured initiator-side error (R6). -/
structure RequestCapture where
  kind : RequestError
  tag : Tag
  deriving DecidableEq, Repr

/-- The acceptance unit: tag table (R1), response queue (R16), capture (R6), and the message at the head of the initiator link that has not been taken (R178). -/
structure Acceptance where
  tags : Vector TagState 32
  queue : List Response
  capture : Option RequestCapture
  head : Option IReqMsg
  deriving DecidableEq, Repr

/-! ### Window table (chapters 1 and 9) -/

/-- A window record (R8). -/
structure WindowRecord where
  enable : Bool
  base : Page
  limit : Page
  cls : AccessClass
  prefetch : Bool
  hold : Byte
  deriving DecidableEq, Repr

/-- A window table: eight records and a default class (R8). -/
structure WindowTable where
  recs : Vector WindowRecord 8
  dflt : AccessClass
  deriving DecidableEq, Repr

/-- The active and the staged table and the default hold time (R8). -/
structure Windows where
  active : WindowTable
  staged : WindowTable
  defaultHold : Byte
  deriving DecidableEq, Repr

/-! ### Combining buffer (chapter 2) and drain engine (chapter 3) -/

/-- The lengths of a burst, in granules (R53). -/
inductive BurstLen where
  | one | two | four | eight
  deriving DecidableEq, Repr

/-- The shape of a piece: a burst of whole granules, or one granule with byte flags (R18, R53). -/
inductive Shape where
  | burst (len : BurstLen)
  | masked (flags : BitVec 8)
  deriving DecidableEq, Repr

/-- The outcome of a piece (R18). -/
inductive PieceOutcome where
  | waiting | issued | done | lost
  deriving DecidableEq, Repr

/-- A piece of a slot or of a DIRECT write (R18, R76). -/
structure Piece where
  start : Fin 8
  shape : Shape
  outcome : PieceOutcome
  deriving DecidableEq, Repr

/-- The state of a non-EMPTY slot, with the fields present only in it: the hold timer remaining of a FILLING slot, the pieces of a DRAINING one (R18). -/
inductive SlotPhase where
  | filling (hold : Option Nat)
  | sealed
  | draining (pieces : List Piece)
  deriving DecidableEq, Repr

/-- A non-EMPTY slot record (R18). Its open order is its place in the age list. -/
structure Slot where
  line : Line
  valid : ByteMask
  data : Lanes
  window : WindowIndex
  cls : AccessClass
  epoch : BitVec 8
  phase : SlotPhase
  waiters : List Tag
  blockers : List Tag
  lost : Bool
  deriving DecidableEq, Repr

/-- The combining buffer: 16 slots, `none` being EMPTY (R18), and the age list, oldest first (R19). -/
structure Buffer where
  slots : Vector (Option Slot) 16
  ages : List SlotIx
  deriving DecidableEq, Repr

/-- An entry of the drain queue: a slot and its age count in ticks (R46). -/
structure DrainEntry where
  slot : SlotIx
  age : Nat
  deriving DecidableEq, Repr

/-- The drain engine: the drain queue in seal order (R46). -/
structure DrainEngine where
  queue : List DrainEntry
  deriving DecidableEq, Repr

/-! ### Fence unit (chapter 4) -/

/-- A fence record (R64). -/
structure FenceRecord where
  tag : Tag
  epoch : BitVec 8
  deriving DecidableEq, Repr

/-- The fence unit (R64). -/
structure FenceUnit where
  epoch : BitVec 8
  list : List FenceRecord
  loss : Bool
  deriving DecidableEq, Repr

/-! ### Read unit (chapter 5) -/

/-- The span of a request: its first byte and its size (00 section 5.1). -/
structure Span where
  addr : Addr
  size : Nat
  deriving DecidableEq, Repr

/-- The operation of a pending record; a DIRECT write carries its bytes on their lanes (R76). -/
inductive Access where
  | read
  | write (data : Lanes)
  deriving DecidableEq, Repr

/-- The phase of a DIRECT record; a released DIRECT write has its pieces, a released DIRECT read has none (R76). -/
inductive DirectPhase where
  | held
  | released (pieces : List Piece)
  deriving DecidableEq, Repr

/-- The state of a pending record with the fields present only in it (R76, R77). -/
inductive ReadState where
  | waitDeps (deps : List SlotIx)
  | waitGrant
  | issued
  | joined (entry : PfIx)
  | directWait (phase : DirectPhase) (lost : Bool)
  deriving DecidableEq, Repr

/-- A record of the pending read list (R76). Its acceptance order is its place in the list. -/
structure ReadRecord where
  tag : Tag
  access : Access
  span : Span
  window : WindowIndex
  cls : AccessClass
  prefetch : Bool
  state : ReadState
  deriving DecidableEq, Repr

/-- The read unit: the pending read list, oldest first (R76). -/
structure ReadUnit where
  reads : List ReadRecord
  deriving DecidableEq, Repr

/-! ### Prefetch buffer (chapter 6) -/

/-- The state of a non-EMPTY prefetch entry, with its join list or its data (R100). -/
inductive PfState where
  | requested (joins : List Tag)
  | pending (joins : List Tag)
  | valid (data : Lanes)
  | stale (joins : List Tag)
  deriving DecidableEq, Repr

/-- A non-EMPTY prefetch entry (R100). -/
structure PfEntry where
  line : Line
  window : Fin 8
  state : PfState
  deriving DecidableEq, Repr

/-- The prefetch buffer: 4 entries, `none` being EMPTY (R100), and the recency order, least recently used first (R101). -/
structure PrefetchBuffer where
  entries : Vector (Option PfEntry) 4
  recency : List PfIx
  deriving DecidableEq, Repr

/-! ### Transaction tracker (chapter 7) -/

/-- The origin of a tracker entry with its origin reference (R115). -/
inductive Origin where
  | drain (slot : SlotIx) (piece : Fin 8)
  | demand (tag : Tag)
  | direct (tag : Tag) (piece : Fin 8)
  | prefetch (entry : PfIx)
  deriving DecidableEq, Repr

/-- The operation of a memory request with its span, or with its address, shape and data (R115). -/
inductive MemOp where
  | mrd (span : Span)
  | mwr (addr : Addr) (shape : Shape) (data : Lanes)
  deriving DecidableEq, Repr

/-- A request handed to the tracker (R56, R86, R93, R94, R104). -/
structure MemRequest where
  origin : Origin
  op : MemOp
  deriving DecidableEq, Repr

/-- A tracker entry: its state with the fields present in it (R115, R116). The numbers are attempts, then ticks remaining; with one tick left the timer may expire (log entries 5 and 6). -/
inductive TrackerEntry where
  | free
  | issued (req : MemRequest) (attempts : Nat) (timer : Nat)
  | backoffWaiting (req : MemRequest) (attempts : Nat) (timer : Nat)
  | backoffOffered (req : MemRequest) (attempts : Nat)
  | late (reclaim : Nat)
  deriving DecidableEq, Repr

/-- The kinds of the memory-side capture (R132, R188). -/
inductive MemoryError where
  | stray | badResp
  deriving DecidableEq, Repr

/-- A captured memory-side error (R132). -/
structure MemoryCapture where
  kind : MemoryError
  tag : MemTag
  deriving DecidableEq, Repr

/-- The transaction tracker: 16 entries by memory tag (R115), the memory-side capture (R132), the late-response count (R133). -/
structure Tracker where
  entries : Vector TrackerEntry 16
  capture : Option MemoryCapture
  lateCount : Byte
  deriving DecidableEq, Repr

/-! ### Memory-link arbiter (chapter 8) -/

/-- A request offered to the arbiter (R142): the drain head, a read in WAIT_GRANT, the DIRECT request, a prefetch entry's request, or the re-issue of a tracker entry. -/
inductive OfferedRequest where
  | drainHead
  | read (tag : Tag)
  | direct
  | prefetch (entry : PfIx)
  | reissue (m : MemTag)
  deriving DecidableEq, Repr

/-- The request classes (R142). -/
inductive RequestClass where
  | demand | drain | prefetch
  deriving DecidableEq, Repr

/-- The arbiter: the ready order of each class, earliest first (R141, R143), and the level of MREQ_READY (R180). -/
structure Arbiter where
  demand : List OfferedRequest
  drain : List OfferedRequest
  prefetch : List OfferedRequest
  mreqReady : Bool
  deriving DecidableEq, Repr

/-! ### Quiesce controller (chapter 9) -/

/-- RUN, QUIESCING or QUIET (R152). -/
inductive QuiesceState where
  | run | quiescing | quiet
  deriving DecidableEq, Repr

/-- The quiesce controller (R152). -/
structure QuiesceController where
  state : QuiesceState
  commitPending : Bool
  drainHeld : Bool
  drnAck : Bool
  deriving DecidableEq, Repr

/-! ### Fault log and interrupt (chapter 10) -/

/-- The cause of a loss record (R166). -/
inductive LossCause where
  | deferLimit | memFault | timeout | resetDiscard
  deriving DecidableEq, Repr

/-- A loss record (R166). -/
structure LossRecord where
  cause : LossCause
  line : Line
  mask : ByteMask
  window : WindowIndex
  cls : AccessClass
  epoch : BitVec 8
  attempts : Nat
  deriving DecidableEq, Repr

/-- The fault log: at most 8 records, oldest first, and the overflow count (R166). -/
structure FaultLog where
  records : List LossRecord
  overflow : Byte
  deriving DecidableEq, Repr

/-- The interrupt status and mask: bit 0 LOG, 1 LOG_OVF, 2 LATE, 3 PROTO, 4 COMMIT (R173, R175, R192). -/
structure InterruptUnit where
  status : BitVec 5
  mask : BitVec 5
  deriving DecidableEq, Repr

/-! ### Management port (chapter 12) -/

/-- The thresholds (R147, R122, R123, R119). -/
structure Thresholds where
  highWatermark : Byte
  promotionTime : Byte
  retryLimit : Byte
  backoffBase : Byte
  responseTimeout : BitVec 16
  deriving DecidableEq, Repr

/-- The command result (R193). -/
inductive CommandResult where
  | none | done | refused | pending | invalid | aborted
  deriving DecidableEq, Repr

/-- The transfer the port takes part in (R189): none; a write transfer whose next data byte is written at the index pointer; a write transfer of which a byte was refused (R190); a read transfer, with the log head's copy once it has one (R168). -/
inductive Transfer where
  | none
  | write
  | refused
  | read (copy : Option (Option LossRecord))
  deriving DecidableEq, Repr

/-- The management port: index pointer (R189), held low byte of the response timeout (R190), command result (R193), the transfer in progress, and the straps as sampled (R189). -/
structure ManagementPort where
  index : Byte
  heldLow : Option Byte
  result : CommandResult
  transfer : Transfer
  straps : BitVec 2
  deriving DecidableEq, Repr

/-! ### Wires and the whole part -/

/-- What passed on the wires in the event last taken: IREQ_READY given (R178), the message sent on the initiator response channel (R179), the message sent on the memory request channel (R180), the port's acknowledge and the byte it sent (R189, R190; what `ack` records for a byte of a read transfer is log entry 14). -/
structure Wires where
  ireqReady : Bool
  irsp : Option (BitVec 10 × Lanes)
  mreq : Option (BitVec 56 × Lanes)
  ack : Option Bool
  sda : Option Byte
  deriving DecidableEq, Repr

end Sys2Proof.Machine

namespace Sys2Proof.Machine

/-- The state of the part, one field per block (spec 00 section 3), the wires, whether RST_N is low, and the queue of commands that wait. -/
structure State where
  acc : Acceptance
  win : Windows
  buf : Buffer
  drain : DrainEngine
  fence : FenceUnit
  rd : ReadUnit
  pf : PrefetchBuffer
  trk : Tracker
  arb : Arbiter
  quiesce : QuiesceController
  flog : FaultLog
  irq : InterruptUnit
  cfg : Thresholds
  port : ManagementPort
  wires : Wires
  inReset : Bool
  pending : List Instr
  deriving DecidableEq, Repr

/-- The reasons a step stops with a fault: none. No rule of the spec stops the part, and no command acts on a unit whose behaviour the spec leaves out (INVENTORY.md, Faults; log entry 23). -/
inductive Fault where
  deriving DecidableEq, Repr

/-- The reasons a step is refused. -/
inductive Refusal where
  /-- Raised by exec's arm of a command that has no meaning yet; safe. No arm raises it in this model. -/
  | notModelled (mnemonic : String)
  deriving DecidableEq, Repr

/-- A step's outcome. -/
abbrev Outcome := Host.Outcome State Fault Refusal

/-! ### One named update per block -/

/-- Put the acceptance unit. -/
def State.setAcc (s : State) (x : Acceptance) : State := { s with acc := x }
/-- Put the window tables. -/
def State.setWin (s : State) (x : Windows) : State := { s with win := x }
/-- Put the combining buffer. -/
def State.setBuf (s : State) (x : Buffer) : State := { s with buf := x }
/-- Put the drain engine. -/
def State.setDrain (s : State) (x : DrainEngine) : State := { s with drain := x }
/-- Put the fence unit. -/
def State.setFence (s : State) (x : FenceUnit) : State := { s with fence := x }
/-- Put the read unit. -/
def State.setRd (s : State) (x : ReadUnit) : State := { s with rd := x }
/-- Put the prefetch buffer. -/
def State.setPf (s : State) (x : PrefetchBuffer) : State := { s with pf := x }
/-- Put the tracker. -/
def State.setTrk (s : State) (x : Tracker) : State := { s with trk := x }
/-- Put the arbiter. -/
def State.setArb (s : State) (x : Arbiter) : State := { s with arb := x }
/-- Put the quiesce controller. -/
def State.setQuiesce (s : State) (x : QuiesceController) : State := { s with quiesce := x }
/-- Put the fault log. -/
def State.setFlog (s : State) (x : FaultLog) : State := { s with flog := x }
/-- Put the interrupt unit. -/
def State.setIrq (s : State) (x : InterruptUnit) : State := { s with irq := x }
/-- Put the thresholds. -/
def State.setCfg (s : State) (x : Thresholds) : State := { s with cfg := x }
/-- Put the management port. -/
def State.setPort (s : State) (x : ManagementPort) : State := { s with port := x }
/-- Put the wires. -/
def State.setWires (s : State) (x : Wires) : State := { s with wires := x }
/-- Put the queue of commands. -/
def State.setPending (s : State) (x : List Instr) : State := { s with pending := x }

/-! ### Reset -/

/-- The window record after reset (R9). -/
def WindowRecord.reset : WindowRecord :=
  { enable := false, base := 0, limit := 0, cls := .direct, prefetch := false, hold := Config.holdTime }

/-- A window table after reset (R9). -/
def WindowTable.reset : WindowTable :=
  { recs := Vector.replicate 8 WindowRecord.reset, dflt := .direct }

/-- Nothing on the wires. -/
def Wires.idle : Wires :=
  { ireqReady := false, irsp := none, mreq := none, ack := none, sda := none }

/-- The part right after power-on or RST_N: R1, R6, R9, R16, R42, R62, R73, R97, R113, R137, R151, R164, R172, R176, R192, R197. The straps, the level of DRN_REQ and the level of MREQ_READY are the board's: log entries 1 and 2. -/
def State.reset : State :=
  { acc := { tags := Vector.replicate 32 TagState.free, queue := [], capture := none, head := none }
    win := { active := WindowTable.reset, staged := WindowTable.reset, defaultHold := Config.holdTime }
    buf := { slots := Vector.replicate 16 none, ages := [] }
    drain := { queue := [] }
    fence := { epoch := 0, list := [], loss := false }
    rd := { reads := [] }
    pf := { entries := Vector.replicate 4 none, recency := [0, 1, 2, 3] }
    trk := { entries := Vector.replicate 16 TrackerEntry.free, capture := none, lateCount := 0 }
    arb := { demand := [], drain := [], prefetch := [], mreqReady := Config.resetMreqReady }
    quiesce := { state := .run, commitPending := false, drainHeld := false, drnAck := false }
    flog := { records := [], overflow := 0 }
    irq := { status := 0, mask := Config.interruptMask }
    cfg :=
      { highWatermark := Config.highWatermark, promotionTime := Config.promotionTime,
        retryLimit := Config.retryLimit, backoffBase := Config.backoffBase,
        responseTimeout := Config.responseTimeout }
    port :=
      { index := 0, heldLow := none, result := .none, transfer := .none,
        straps := Config.resetStraps }
    wires := Wires.idle
    inReset := false
    pending := [] }

end Sys2Proof.Machine
end

