-- ==== Sys2Proof/Machine/Flags.lean ====
section
/-! DEFINITION. The status bits of the part: interrupt status and IRQ_N (R173 to R175), and the two protocol captures (R6, R132). -/

namespace Sys2Proof.Machine

/-- The interrupt status bits (R173). -/
inductive IrqBit where
  | log | logOvf | late | proto | commit
  deriving DecidableEq, Repr

/-- R192: the position of a status bit. -/
def IrqBit.mask : IrqBit → BitVec 5
  | .log => 1
  | .logOvf => 2
  | .late => 4
  | .proto => 8
  | .commit => 16

/-- R173: an event sets its status bit. -/
def setIrqBit (b : IrqBit) (s : State) : State :=
  s.setIrq { s.irq with status := s.irq.status ||| b.mask }

/-- R175: the level of IRQ_N, low (false) while a status bit is set whose mask bit is clear. -/
def irqN (s : State) : Bool := s.irq.status &&& ~~~s.irq.mask == 0

/-- R6: an error offered to the initiator-side capture is recorded only where it holds nothing. -/
def offerRequestError (k : RequestError) (t : Tag) (s : State) : State :=
  match s.acc.capture with
  | none => s.setAcc { s.acc with capture := some { kind := k, tag := t } }
  | some _ => s

/-- R132: an error offered to the memory-side capture is recorded only where it holds nothing. -/
def offerMemoryError (k : MemoryError) (m : MemTag) (s : State) : State :=
  match s.trk.capture with
  | none => s.setTrk { s.trk with capture := some { kind := k, tag := m } }
  | some _ => s

/-- A count of 8 bits that stays at 255 once there (R133, R167). -/
def bumpCount (n : Byte) : Byte := if n = 255 then n else n + 1

end Sys2Proof.Machine
end

