-- ==== Sys2Proof/Machine/Operands.lean ====
section
/-! DEFINITION. Addresses, spans, byte masks and lanes; the piece rule (R53, R54); the request message (R183); the response message (R184); the memory request message (R185). -/

namespace Sys2Proof.Machine

/-! ### Indices -/

/-- The slot indices, ascending. -/
def allSlots : List SlotIx := List.finRange 16
/-- The initiator tags, ascending. -/
def allTags : List Tag := List.finRange 32
/-- The memory tags, ascending. -/
def allMemTags : List MemTag := List.finRange 16
/-- The prefetch entry indices, ascending. -/
def allPf : List PfIx := List.finRange 4

/-! ### Addresses (00 section 5.1) -/

/-- The line of a byte address. -/
def lineOf (a : Addr) : Line := a.extractLsb' 6 34

/-- The line address: the line with six zero bits below it. -/
def lineAddr (l : Line) : Addr := l ++ 0#6

/-- The offset of a byte address within its line, 0 to 63. -/
def offsetOf (a : Addr) : Nat := (a.extractLsb' 0 6).toNat

/-- R7: the page number of a byte address, the address divided by 4096. -/
def pageOf (a : Addr) : Page := a.extractLsb' 12 28

/-- Whether a line is the last of its page (R102, condition 2). -/
def lastOfPage (l : Line) : Bool := l.extractLsb' 0 6 == 63#6

/-! ### Masks and lanes -/

/-- The mask of `size` bytes from offset `off`. -/
def runMask (off size : Nat) : ByteMask := (BitVec.allOnes 64 >>> (64 - size)) <<< off

/-- The mask of a span's bytes over its line. -/
def Span.mask (sp : Span) : ByteMask := runMask (offsetOf sp.addr) sp.size

/-- The line a span lies in. -/
def Span.line (sp : Span) : Line := lineOf sp.addr

/-- Every lane zero. -/
def zeroLanes : Lanes := Vector.replicate 64 0

/-- The lanes of `new` where the mask is set, of `old` elsewhere. -/
def mergeLanes (m : ByteMask) (new old : Lanes) : Lanes :=
  Vector.ofFn fun i => if m.getLsbD i.val then new[i] else old[i]

/-- The lanes of `d` where the mask is set, zero elsewhere (section 11.4: a lane that carries no byte is driven as zero). -/
def takeLanes (m : ByteMask) (d : Lanes) : Lanes := mergeLanes m d zeroLanes

/-- Whether every byte of `part` is in `whole`. -/
def covers (whole part : ByteMask) : Bool := whole &&& part == part

/-! ### Pieces (R53, R54) -/

/-- The granules of a burst. -/
def BurstLen.granules : BurstLen → Nat
  | .one => 1
  | .two => 2
  | .four => 4
  | .eight => 8

/-- The eight flags of granule `g`. -/
def granuleFlags (m : ByteMask) (g : Nat) : BitVec 8 := m.extractLsb' (8 * g) 8

/-- Whether a burst of this length may start at granule `g`: `g` is a multiple of the length, and every byte of its granules is valid. -/
def burstFits (m : ByteMask) (g : Nat) (n : BurstLen) : Bool :=
  g % n.granules == 0 && covers m (runMask (8 * g) (8 * n.granules))

/-- R53: the largest of 8, 4, 2 and 1 that fits at a full granule. -/
def burstAt (m : ByteMask) (g : Nat) : BurstLen :=
  if burstFits m g .eight then .eight
  else if burstFits m g .four then .four
  else if burstFits m g .two then .two
  else .one

/-- R53: the scan from granule `g`, at most `fuel` pieces or empty granules further. -/
def scanPieces : Nat → Nat → ByteMask → List Piece
  | 0, _, _ => []
  | fuel + 1, g, m =>
    if h : g < 8 then
      let flags := granuleFlags m g
      if flags = 0 then scanPieces fuel (g + 1) m
      else if flags = BitVec.allOnes 8 then
        { start := ⟨g, h⟩, shape := .burst (burstAt m g), outcome := .waiting }
          :: scanPieces fuel (g + (burstAt m g).granules) m
      else
        { start := ⟨g, h⟩, shape := .masked flags, outcome := .waiting } :: scanPieces fuel (g + 1) m
    else []

/-- R53: the pieces of a valid mask, in ascending granule order, each WAITING. -/
def formPieces (m : ByteMask) : List Piece := scanPieces 8 0 m

/-- R54: the bytes of a piece, as a mask over the line. -/
def Piece.mask (p : Piece) : ByteMask :=
  match p.shape with
  | .burst n => runMask (8 * p.start.val) (8 * n.granules)
  | .masked flags => flags.setWidth 64 <<< (8 * p.start.val)

/-- Whether a piece has ended (R40). -/
def Piece.resolved (p : Piece) : Bool := p.outcome == .done || p.outcome == .lost

/-- Set the outcome of piece number `k`. -/
def setOutcome (ps : List Piece) (k : Nat) (o : PieceOutcome) : List Piece :=
  ps.modify k fun p => { p with outcome := o }

/-- The WAITING piece with the lowest number, with its number (R55, R94). -/
def firstWaiting (ps : List Piece) : Option (Nat × Piece) :=
  match ps.findIdx? (fun p => p.outcome == .waiting) with
  | some k => ps[k]?.map fun p => (k, p)
  | none => none

/-- R54: the MWR that carries a piece of line `l` whose bytes stand on the lanes `d`. -/
def pieceWrite (l : Line) (d : Lanes) (p : Piece) : MemOp :=
  .mwr (lineAddr l + BitVec.ofNat 40 (8 * p.start.val)) p.shape (takeLanes p.mask d)

/-! ### Request messages (R183) -/

/-- The operation of a request; 011b to 111b is an unknown operation (R183). -/
inductive RequestOp where
  | read | write | fence | unknown
  deriving DecidableEq, Repr

/-- A request as read from its message (R183). -/
structure Request where
  op : RequestOp
  tag : Tag
  confirm : Bool
  span : Span
  data : Lanes
  deriving DecidableEq, Repr

/-- R183: operation in bits 2:0. -/
def requestOp (code : BitVec 3) : RequestOp :=
  match code.toNat with
  | 0 => .read
  | 1 => .write
  | 2 => .fence
  | _ => .unknown

/-- R183: tag in bits 7:3, confirm flag in bit 8, size in bits 15:9, address in bits 55:16. -/
def decodeRequest (m : IReqMsg) : Request :=
  { op := requestOp (m.hdr.extractLsb' 0 3)
    tag := Fin.ofNat 32 (m.hdr.extractLsb' 3 5).toNat
    confirm := m.hdr.getLsbD 8
    span := { addr := m.hdr.extractLsb' 16 40, size := (m.hdr.extractLsb' 9 7).toNat }
    data := m.data }

/-- R183: the operation code of a request; an unknown operation is given code 111b. -/
def RequestOp.code : RequestOp → BitVec 3
  | .read => 0
  | .write => 1
  | .fence => 2
  | .unknown => 7

/-- R183: the message of a request, field by field. -/
def encodeRequest (r : Request) : IReqMsg :=
  { hdr := r.span.addr ++ BitVec.ofNat 7 r.span.size ++ BitVec.ofBool r.confirm ++
      BitVec.ofNat 5 r.tag.val ++ r.op.code
    data := r.data }

/-- R5: a READ or WRITE whose size is 0 or above 64, or whose span runs past the last byte of its line. -/
def badSpan (sp : Span) : Bool :=
  sp.size == 0 || 64 < sp.size || 64 < offsetOf sp.addr + sp.size

/-- R5: the capture kind of a malformed request; none for a well-formed one. -/
def malformedKind (r : Request) : Option RequestError :=
  match r.op with
  | .unknown => some .badOp
  | .fence => none
  | .read => if badSpan r.span then some .badSpan else none
  | .write => if badSpan r.span then some .badSpan else none

/-! ### Response messages (R184) -/

/-- R184: the reason codes. -/
def Reason.code : Reason → BitVec 2
  | .rejected => 0
  | .malformed => 1
  | .memory => 2
  | .reset => 3

/-- The tag of a response. -/
def Response.tag : Response → Tag
  | .rdataOk t _ => t
  | .rdataError t _ => t
  | .wackOk t => t
  | .wackError t _ => t
  | .fack t _ => t

/-- The header of a response from its fields: reason 9:8, status 7, tag 6:2, kind 1:0 (R184). -/
def responseFields (reason : BitVec 2) (status : Bool) (tag : Tag) (kind : BitVec 2) : BitVec 10 :=
  reason ++ BitVec.ofBool status ++ BitVec.ofNat 5 tag.val ++ kind

/-- R184: IRSP_HDR of a response. -/
def Response.header : Response → BitVec 10
  | .rdataOk t _ => responseFields 0 false t 0
  | .rdataError t r => responseFields r.code true t 0
  | .wackOk t => responseFields 0 false t 1
  | .wackError t r => responseFields r.code true t 1
  | .fack t loss => responseFields 0 loss t 2

/-- R184: IRSP_DATA of a response. -/
def Response.lanes : Response → Lanes
  | .rdataOk _ d => d
  | .rdataError _ _ => zeroLanes
  | .wackOk _ => zeroLanes
  | .wackError _ _ => zeroLanes
  | .fack _ _ => zeroLanes

/-! ### Memory request messages (R185) -/

/-- R185: the shape codes. -/
def Shape.code : Shape → BitVec 3
  | .burst .one => 0
  | .burst .two => 1
  | .burst .four => 2
  | .burst .eight => 3
  | .masked _ => 4

/-- R185: the byte mask field, zero for the burst shapes. -/
def Shape.byteMask : Shape → BitVec 8
  | .burst _ => 0
  | .masked flags => flags

/-- R185: MREQ_HDR of a request sent under memory tag `m`. -/
def memHeader (m : MemTag) : MemOp → BitVec 56
  | .mrd sp => 0#4 ++ BitVec.ofNat 7 sp.size ++ sp.addr ++ BitVec.ofNat 4 m.val ++ 0#1
  | .mwr a sh _ => sh.byteMask ++ sh.code ++ a ++ BitVec.ofNat 4 m.val ++ 1#1

/-- R185: MREQ_DATA of a request. -/
def MemOp.lanes : MemOp → Lanes
  | .mrd _ => zeroLanes
  | .mwr _ _ d => d

/-- Whether a memory request is an MWR. -/
def MemOp.isWrite : MemOp → Bool
  | .mrd _ => false
  | .mwr _ _ _ => true

end Sys2Proof.Machine
end

