-- ==== Sys2Proof/Machine/Ops.lean ====
section
/-! DEFINITION. The named operations shared by the blocks: the wires of an event, the tag table and the response queue, slot records and the age list, the ready orders, the fault log, the pending read list. -/

namespace Sys2Proof.Machine

/-! ### Events -/

/-- The shape of every command: the wires start idle; while reset is held the part takes no message, acknowledges nothing and runs no timer (R182, R197); otherwise the command's event `f` is applied. No command stops the part. -/
def event (s : State) (f : State → State) : Host.Outcome State Fault Refusal :=
  let s0 := s.setWires Wires.idle
  .next (if s.inReset then s0 else f s0)

/-! ### Levels on the wires -/

/-- R179, R182: the response presented on the initiator response channel; IRSP_VALID is high exactly when there is one. -/
def irspPresented (s : State) : Option Response :=
  if s.inReset then none else s.acc.queue.head?

/-- R181, R182: MRSP_READY is high at all times outside reset. -/
def mrspReady (s : State) : Bool := !s.inReset

/-! ### Tag table and response queue -/

/-- The state of a tag's entry (R1). -/
def tagState (s : State) (t : Tag) : TagState := s.acc.tags[t]

/-- Put the state of a tag's entry. -/
def setTag (t : Tag) (x : TagState) (s : State) : State :=
  s.setAcc { s.acc with tags := s.acc.tags.set t x }

/-- R16: placing a response puts it at the end of the queue and moves its tag's entry to RESPONDING. -/
def pushResponse (r : Response) (s : State) : State :=
  setTag r.tag .responding (s.setAcc { s.acc with queue := s.acc.queue ++ [r] })

/-- Put the message that waits at the head of the initiator link. -/
def setHead (m : Option IReqMsg) (s : State) : State := s.setAcc { s.acc with head := m }

/-- R178: the presented request is taken: IREQ_READY is given and the head leaves the link. -/
def takeHead (s : State) : State :=
  (setHead none s).setWires { s.wires with ireqReady := true }

/-- Whether a tag entry is in state DIRECT. -/
def TagState.isDirect : TagState → Bool
  | .direct _ => true
  | .free => false
  | .read => false
  | .confirmWrite => false
  | .fence => false
  | .responding => false

/-- R3: acceptance is stopped in QUIESCING and QUIET, and while any tag entry is DIRECT. -/
def acceptStopped (s : State) : Bool :=
  s.quiesce.state != .run || allTags.any fun t => (tagState s t).isDirect

/-! ### Slots -/

/-- A slot record; none where the slot is EMPTY. -/
def slotAt (s : State) (i : SlotIx) : Option Slot := s.buf.slots[i]

/-- Put a slot record. -/
def putSlot (i : SlotIx) (x : Option Slot) (s : State) : State :=
  s.setBuf { s.buf with slots := s.buf.slots.set i x }

/-- Whether a slot is non-EMPTY. -/
def slotLive (s : State) (i : SlotIx) : Bool := (slotAt s i).isSome

/-- The number of non-EMPTY slots. -/
def liveCount (s : State) : Nat := (allSlots.filter (slotLive s)).length

/-- Whether no slot is non-EMPTY. -/
def noSlotLive (s : State) : Bool := allSlots.all fun i => !slotLive s i

/-- Whether a slot holds a line: it is non-EMPTY and its line address is that line (00 section 5.2). -/
def holds (s : State) (l : Line) (i : SlotIx) : Bool :=
  match slotAt s i with
  | some x => x.line == l
  | none => false

/-- Whether a slot record is FILLING. -/
def Slot.isFilling (x : Slot) : Bool :=
  match x.phase with
  | .filling _ => true
  | .sealed => false
  | .draining _ => false

/-- Whether a slot is FILLING. -/
def slotFilling (s : State) (i : SlotIx) : Bool :=
  match slotAt s i with
  | some x => x.isFilling
  | none => false

/-- The non-EMPTY slots that hold a line, by index (R37). -/
def slotsOfLine (s : State) (l : Line) : List SlotIx := allSlots.filter (holds s l)

/-- R19: the youngest slot for a line. -/
def youngestOfLine (s : State) (l : Line) : Option SlotIx := s.buf.ages.reverse.find? (holds s l)

/-- The FILLING slot that holds a line (R20: at most one). -/
def fillingOfLine (s : State) (l : Line) : Option SlotIx :=
  allSlots.find? fun i => holds s l i && slotFilling s i

/-- The lowest-indexed EMPTY slot (R21). -/
def firstEmptySlot (s : State) : Option SlotIx := allSlots.find? fun i => !slotLive s i

/-! ### Ready orders (R143) -/

/-- The ready order of a class. -/
def readyOrder (s : State) : RequestClass → List OfferedRequest
  | .demand => s.arb.demand
  | .drain => s.arb.drain
  | .prefetch => s.arb.prefetch

/-- Put the ready order of a class. -/
def setReadyOrder (c : RequestClass) (l : List OfferedRequest) (s : State) : State :=
  match c with
  | .demand => s.setArb { s.arb with demand := l }
  | .drain => s.setArb { s.arb with drain := l }
  | .prefetch => s.setArb { s.arb with prefetch := l }

/-- R143: a request joins the end of its class's ready order. -/
def offer (c : RequestClass) (r : OfferedRequest) (s : State) : State :=
  setReadyOrder c (readyOrder s c ++ [r]) s

/-- R143: a request leaves its class's ready order, granted or withdrawn; the others keep their order. -/
def withdraw (c : RequestClass) (r : OfferedRequest) (s : State) : State :=
  setReadyOrder c ((readyOrder s c).filter (· != r)) s

/-! ### Pending read list (R76) -/

/-- The record of a tag. -/
def readOf (s : State) (t : Tag) : Option ReadRecord := s.rd.reads.find? fun r => r.tag == t

/-- Put a record: in the place of the tag's record where there is one, else at the end of the list. -/
def putRead (r : ReadRecord) (s : State) : State :=
  match readOf s r.tag with
  | some _ => s.setRd { reads := s.rd.reads.map fun q => if q.tag == r.tag then r else q }
  | none => s.setRd { reads := s.rd.reads ++ [r] }

/-- Remove the record of a tag. -/
def dropRead (t : Tag) (s : State) : State :=
  s.setRd { reads := s.rd.reads.filter fun r => r.tag != t }

/-- R38: a read's tag leaves the blocker list of every slot. -/
def dropBlocker (t : Tag) (s : State) : State :=
  s.setBuf { s.buf with
    slots := Vector.ofFn fun i =>
      (s.buf.slots[i]).map fun x => { x with blockers := x.blockers.filter (· != t) } }

/-- R89: a read is answered: the response is placed, the blocker report is made, the record is removed. -/
def answerRead (r : Response) (s : State) : State :=
  dropRead r.tag (dropBlocker r.tag (pushResponse r s))

/-! ### Fault log (R167) -/

/-- R167: one add: stored with LOG set while fewer than 8 records are held, else counted with LOG_OVF set. -/
def addLoss (r : LossRecord) (s : State) : State :=
  if s.flog.records.length < 8 then
    setIrqBit .log (s.setFlog { s.flog with records := s.flog.records ++ [r] })
  else
    setIrqBit .logOvf (s.setFlog { s.flog with overflow := bumpCount s.flog.overflow })

end Sys2Proof.Machine
end

