-- ==== Sys2Proof/Machine/Sealing.lean ====
section
/-! DEFINITION. Sealing (R25 to R36) and the drain engine's own tests: eligibility (R47 to R50), beginning a slot (R52), the drain head (R55), the promotion input (R57). -/

namespace Sys2Proof.Machine

/-! ### Sealing -/

/-- R28: a FILLING slot becomes SEALED, its hold timer is cancelled, and it joins the end of the drain queue with age 0. A slot that is not FILLING is left as it is. -/
def sealSlot (i : SlotIx) (s : State) : State :=
  match slotAt s i with
  | some x =>
    if x.isFilling then
      let s1 := putSlot i (some { x with phase := .sealed }) s
      s1.setDrain { queue := s1.drain.queue ++ [{ slot := i, age := 0 }] }
    else s
  | none => s

/-- Seal slots in the order of a list. -/
def sealSlots (is : List SlotIx) (s : State) : State := is.foldl (fun t i => sealSlot i t) s

/-- R31: every FILLING slot is sealed in the order of the age list. -/
def sealAll (s : State) : State := sealSlots (s.buf.ages.filter (slotFilling s)) s

/-- R35: the FILLING slot of a line is sealed, if there is one. -/
def sealLine (l : Line) (s : State) : State :=
  match fillingOfLine s l with
  | some i => sealSlot i s
  | none => s

/-- R36: the oldest FILLING slot is sealed, if there is one. -/
def pressureSeal (s : State) : State :=
  match s.buf.ages.find? (slotFilling s) with
  | some i => sealSlot i s
  | none => s

/-! ### Eligibility -/

/-- R66: the offset of an epoch from the oldest outstanding fence's epoch `e0`, modulo 256. -/
def epochOffset (e0 x : BitVec 8) : Nat := (x - e0).toNat

/-- R66: whether epoch `x` is at or before epoch `y`, by their offsets from `e0`. -/
def atOrBefore (e0 x y : BitVec 8) : Bool := epochOffset e0 x ≤ epochOffset e0 y

/-- R47: the fence hold; met when no fence is outstanding, or when the slot's epoch is at or before the oldest fence's. -/
def meetsFenceHold (s : State) (x : Slot) : Bool :=
  match s.fence.list with
  | [] => true
  | f :: _ => atOrBefore f.epoch x.epoch f.epoch

/-- R48: the same-line order; met when no slot older than slot `i` holds its line. -/
def meetsLineOrder (s : State) (i : SlotIx) (x : Slot) : Bool :=
  (s.buf.ages.takeWhile (· != i)).all fun j => !holds s x.line j

/-- Whether a slot is of class SEQUENCE. -/
def slotSequence (s : State) (i : SlotIx) : Bool :=
  match slotAt s i with
  | some x => x.cls == .sequence
  | none => false

/-- R49: the SEQUENCE order; met by a COMBINE slot always, by a SEQUENCE slot when no SEQUENCE slot stands before it in the drain queue. -/
def meetsSequenceOrder (s : State) (i : SlotIx) (x : Slot) : Bool :=
  x.cls != .sequence || (s.drain.queue.takeWhile (·.slot != i)).all fun e => !slotSequence s e.slot

/-- R50: the blocker list is empty. -/
def meetsBlockers (x : Slot) : Bool := x.blockers.isEmpty

/-- R47 to R50: a SEALED slot that meets the four conditions is eligible to begin. -/
def eligible (s : State) (i : SlotIx) : Bool :=
  match slotAt s i with
  | some x =>
    x.phase == .sealed && meetsFenceHold s x && meetsLineOrder s i x && meetsSequenceOrder s i x &&
      meetsBlockers x
  | none => false

/-- The entry of the eligible SEALED slot that stands first in queue order (R52, R57). -/
def firstEligible (s : State) : Option DrainEntry := s.drain.queue.find? fun e => eligible s e.slot

/-- R57: the promotion input, the age count of the oldest eligible SEALED slot. -/
def promotionInput (s : State) : Option Nat := (firstEligible s).map (·.age)

/-! ### Beginning a slot -/

/-- Whether a slot is DRAINING with a WAITING piece. -/
def slotWaiting (s : State) (i : SlotIx) : Bool :=
  match slotAt s i with
  | some x =>
    match x.phase with
    | .draining ps => ps.any fun p => p.outcome == .waiting
    | .filling _ => false
    | .sealed => false
  | none => false

/-- The issuing slot while it has WAITING pieces (R52, R55): the DRAINING slot with a WAITING piece. -/
def issuing (s : State) : Option SlotIx := (s.drain.queue.map (·.slot)).find? (slotWaiting s)

/-- R52, R39: the slot's pieces are formed, it becomes DRAINING, and its piece 0 is offered as the drain head (R55). -/
def beginSlot (i : SlotIx) (s : State) : State :=
  match slotAt s i with
  | some x => offer .drain .drainHead (putSlot i (some { x with phase := .draining (formPieces x.valid) }) s)
  | none => s

/-- R51, R52: the drain engine's test. When no DRAINING slot has a WAITING piece, the first eligible SEALED slot of the queue is begun. -/
def drainTest (s : State) : State :=
  match issuing s with
  | some _ => s
  | none =>
    match firstEligible s with
    | some e => beginSlot e.slot s
    | none => s

end Sys2Proof.Machine
end

