-- ==== Sys2Proof/Machine/Prefetching.lean ====
section
/-! DEFINITION. The prefetch buffer's entries: recency (R101), the trigger and the victim (R102, R103), fall-backs (R84, R108), write reports (R109), invalidation (R112). -/

namespace Sys2Proof.Machine

/-- A prefetch entry; none where it is EMPTY. -/
def pfAt (s : State) (e : PfIx) : Option PfEntry := s.pf.entries[e]

/-- Put a prefetch entry. -/
def putPf (e : PfIx) (x : Option PfEntry) (s : State) : State :=
  s.setPf { s.pf with entries := s.pf.entries.set e x }

/-- Whether a non-EMPTY entry holds a line, whatever its state (R100). -/
def pfHolds (s : State) (l : Line) (e : PfIx) : Bool :=
  match pfAt s e with
  | some x => x.line == l
  | none => false

/-- The entry that holds a line (R111: at most one). -/
def pfOfLine (s : State) (l : Line) : Option PfIx := allPf.find? (pfHolds s l)

/-! ### Recency (R101) -/

/-- An entry moves to the most recently used end; the others keep their order. -/
def toMru (e : PfIx) (order : List PfIx) : List PfIx := order.filter (· != e) ++ [e]

/-- Entries move together to the least recently used end, keeping their order among themselves; the others keep theirs. -/
def toLru (es : List PfIx) (order : List PfIx) : List PfIx :=
  order.filter (fun e => es.contains e) ++ order.filter fun e => !es.contains e

/-- Put an entry at the most recently used end. -/
def markMru (e : PfIx) (s : State) : State := s.setPf { s.pf with recency := toMru e s.pf.recency }

/-- Make entries EMPTY in one event: they lose all they hold and move together to the least recently used end. -/
def emptyPf (es : List PfIx) (s : State) : State :=
  s.setPf
    { entries := Vector.ofFn fun e => if es.contains e then none else s.pf.entries[e]
      recency := toLru es s.pf.recency }

/-! ### Fall-backs (R84, R108) -/

/-- R84, R85: a joined read falls back: its record moves to WAIT_GRANT and offers a DEMAND request. -/
def fallBack (t : Tag) (s : State) : State :=
  match readOf s t with
  | some r => offer .demand (.read t) (putRead { r with state := .waitGrant } s)
  | none => s

/-- The joined reads fall back in join order. -/
def fallBackAll (ts : List Tag) (s : State) : State := ts.foldl (fun u t => fallBack t u) s

/-! ### Trigger and victim (R102, R103) -/

/-- Whether an entry is EMPTY or VALID. -/
def canBeVictim (s : State) (e : PfIx) : Bool :=
  match pfAt s e with
  | none => true
  | some x =>
    match x.state with
    | .valid _ => true
    | .requested _ => false
    | .pending _ => false
    | .stale _ => false

/-- R103: the victim, the least recently used entry in state EMPTY or VALID. -/
def victim (s : State) : Option PfIx := s.pf.recency.find? (canBeVictim s)

/-- R102, conditions 2 to 5, for a trigger offered from line `l` for the line after it. -/
def triggerAllowed (l : Line) (s : State) : Bool :=
  !lastOfPage l && (pfOfLine s (l + 1)).isNone && (slotsOfLine s (l + 1)).isEmpty && s.quiesce.state == .run

/-- R102, R103: a trigger from line `l` under window `w`: the victim becomes REQUESTED for the next line, goes to the most recently used end and offers its PREFETCH request. -/
def trigger (l : Line) (w : Fin 8) (s : State) : State :=
  if triggerAllowed l s then
    match victim s with
    | some e =>
      offer .prefetch (.prefetch e)
        (markMru e (putPf e (some { line := l + 1, window := w, state := .requested [] }) s))
    | none => s
  else s

/-- R102, condition 1: the trigger a read offers: it is of class COMBINE, with prefetch enabled, in a window. -/
def readTrigger (r : ReadRecord) (s : State) : State :=
  match r.window with
  | .win w => if r.cls == .combine && r.prefetch then trigger r.span.line w s else s
  | .default => s

/-! ### Writes and invalidation (R109, R112) -/

/-- What a write report (R109) and an invalidate request (R112) both do to one entry: VALID becomes EMPTY; REQUESTED is withdrawn, becomes EMPTY and its joined reads fall back; PENDING becomes STALE; STALE and EMPTY stay. -/
def spoilEntry (e : PfIx) (s : State) : State :=
  match pfAt s e with
  | none => s
  | some x =>
    match x.state with
    | .valid _ => emptyPf [e] s
    | .requested joins => fallBackAll joins (emptyPf [e] (withdraw .prefetch (.prefetch e) s))
    | .pending joins => putPf e (some { x with state := .stale joins }) s
    | .stale _ => s

/-- R109: a write accepted to line `l` is reported to the entry that holds it. -/
def writeReport (l : Line) (s : State) : State :=
  match pfOfLine s l with
  | some e => spoilEntry e s
  | none => s

/-- Whether an invalidate request makes an entry EMPTY (R112). -/
def invalidateEmpties (s : State) (e : PfIx) : Bool :=
  match pfAt s e with
  | none => false
  | some x =>
    match x.state with
    | .valid _ => true
    | .requested _ => true
    | .pending _ => false
    | .stale _ => false

/-- R112: an invalidate request acts on every entry, by index (log entry 9); the entries made EMPTY then move together to the least recently used end, in the order they had before the event. -/
def invalidate (s : State) : State :=
  let emptied := allPf.filter (invalidateEmpties s)
  let s1 := allPf.foldl (fun u e => spoilEntry e u) s
  s1.setPf { s1.pf with recency := toLru emptied s.pf.recency }

end Sys2Proof.Machine
end

