-- ==== Sys2Proof/Machine/Reading.lean ====
section
/-! DEFINITION. The read unit: steps 2 and 3 of R79 with what the prefetch buffer answers (R83 to R85, R105), reads released by a slot (R82), and the DIRECT path's release (R92 to R94). -/

namespace Sys2Proof.Machine

/-- The RDATA OK of a read: the span's bytes of a line's lanes (R80, R83, R84, R87). -/
def readData (r : ReadRecord) (d : Lanes) : Response := .rdataOk r.tag (takeLanes r.span.mask d)

/-- R85: the record stands in WAIT_GRANT and offers its DEMAND request. -/
def demandRead (r : ReadRecord) (s : State) : State :=
  offer .demand (.read r.tag) (putRead { r with state := .waitGrant } s)

/-- R84: the read joins an entry: its tag goes to the end of the join list and its record is JOINED. -/
def joinRead (r : ReadRecord) (e : PfIx) (x : PfEntry) (st : PfState) (s : State) : State :=
  putRead { r with state := .joined e } (putPf e (some { x with state := st }) s)

/-- R83, R105: the read is served from a VALID entry, which becomes most recently used; then the read's trigger is offered. -/
def serveRead (r : ReadRecord) (e : PfIx) (d : Lanes) (s : State) : State :=
  readTrigger r (markMru e (answerRead (readData r d) s))

/-- R79 steps 2 and 3, for a read accepted with no slot of its line, or leaving WAIT_DEPS (R82): a COMBINE read is served by or joins the entry of its line; else the read is a demand read. -/
def routeRead (r : ReadRecord) (s : State) : State :=
  if r.cls == .combine then
    match pfOfLine s r.span.line with
    | none => demandRead r s
    | some e =>
      match pfAt s e with
      | none => demandRead r s
      | some x =>
        match x.state with
        | .valid d => serveRead r e d s
        | .requested joins => joinRead r e x (.requested (joins ++ [r.tag])) s
        | .pending joins => joinRead r e x (.pending (joins ++ [r.tag])) s
        | .stale _ => demandRead r s
  else demandRead r s

/-- R82: one record hears that slot `i` has emptied: a WAIT_DEPS record drops it from its dependencies, and goes on when none is left. -/
def releaseRead (i : SlotIx) (t : Tag) (s : State) : State :=
  match readOf s t with
  | none => s
  | some r =>
    match r.state with
    | .waitDeps deps =>
      if deps.contains i then
        let left := deps.filter (· != i)
        if left.isEmpty then routeRead r s else putRead { r with state := .waitDeps left } s
      else s
    | .waitGrant => s
    | .issued => s
    | .joined _ => s
    | .directWait _ _ => s

/-- R82: every record hears that slot `i` has emptied, in acceptance order. -/
def releaseReads (i : SlotIx) (s : State) : State :=
  (s.rd.reads.map (·.tag)).foldl (fun u t => releaseRead i t u) s

/-! ### The DIRECT path -/

/-- Whether a record is a DIRECT one in phase HELD. -/
def ReadRecord.isHeld (r : ReadRecord) : Bool :=
  match r.state with
  | .directWait .held _ => true
  | .directWait (.released _) _ => false
  | .waitDeps _ => false
  | .waitGrant => false
  | .issued => false
  | .joined _ => false

/-- R94: the pieces of a DIRECT access at its release: a write's, formed from its span's mask; a read has none. -/
def directPieces (r : ReadRecord) : List Piece :=
  match r.access with
  | .read => []
  | .write _ => formPieces r.span.mask

/-- R93, R94: a DIRECT record is released and its request is offered in class DEMAND. -/
def releaseRecord (r : ReadRecord) (s : State) : State :=
  offer .demand .direct (putRead { r with state := .directWait (.released (directPieces r)) false } s)

/-- R92: the release test: when no slot is non-EMPTY, a HELD DIRECT record is released. -/
def directTest (s : State) : State :=
  if noSlotLive s then
    match s.rd.reads.find? ReadRecord.isHeld with
    | some r => releaseRecord r s
    | none => s
  else s

end Sys2Proof.Machine
end

