-- ==== Sys2Proof/Machine/Completing.lean ====
section
/-! DEFINITION. Fence completion (R70, R71) and slot completion (R40, R41), and the outcomes of a drain piece that bring it about (R58, R59, R60). -/

namespace Sys2Proof.Machine

/-! ### Fences -/

/-- R70: whether a non-EMPTY slot has an epoch at or before the fence's, the oldest outstanding one. -/
def fenceBlocked (s : State) (f : FenceRecord) : Bool :=
  allSlots.any fun i =>
    match slotAt s i with
    | some x => atOrBefore f.epoch x.epoch f.epoch
    | none => false

/-- R71: a fence completes: its FACK is placed, LOSS if the loss flag is set; the flag is cleared; its record leaves the list, of which `rest` remains. -/
def completeFence (f : FenceRecord) (rest : List FenceRecord) (s : State) : State :=
  let s1 := pushResponse (.fack f.tag s.fence.loss) s
  s1.setFence { s1.fence with list := rest, loss := false }

/-- R70, R71: the completion test over the fence list, oldest first, made again after each completion. -/
def fenceTestFrom : List FenceRecord → State → State
  | [], s => s
  | f :: rest, s => if fenceBlocked s f then s else fenceTestFrom rest (completeFence f rest s)

/-- R70: the completion test. -/
def fenceTest (s : State) : State := fenceTestFrom s.fence.list s

/-! ### Slot completion -/

/-- R41: the WACK of a waiter, by the slot's lost flag. -/
def waiterAnswer (lost : Bool) (t : Tag) : Response :=
  if lost then .wackError t .memory else .wackOk t

/-- R40, step 1: the waiters are answered in list order. -/
def answerWaiters (x : Slot) (s : State) : State :=
  x.waiters.foldl (fun u t => pushResponse (waiterAnswer x.lost t) u) s

/-- R40, step 2: the slot leaves the drain queue and the age list and becomes EMPTY. -/
def emptySlot (i : SlotIx) (s : State) : State :=
  let s1 := s.setBuf { slots := s.buf.slots.set i none, ages := s.buf.ages.filter (· != i) }
  s1.setDrain { queue := s1.drain.queue.filter fun e => e.slot != i }

/-- R40: a slot completes: waiters, emptying, reads, fences, in this order; then the DIRECT path's test of R92. -/
def completeSlot (i : SlotIx) (x : Slot) (s : State) : State :=
  directTest (fenceTest (releaseReads i (emptySlot i (answerWaiters x s))))

/-! ### Piece outcomes -/

/-- The pieces of a DRAINING slot. -/
def Slot.pieces (x : Slot) : List Piece :=
  match x.phase with
  | .draining ps => ps
  | .filling _ => []
  | .sealed => []

/-- Put the outcome of piece `k` of slot record `x`; a LOST piece sets the lost flag (R39). -/
def Slot.mark (x : Slot) (k : Nat) (o : PieceOutcome) : Slot :=
  { x with phase := .draining (setOutcome x.pieces k o), lost := x.lost || o == .lost }

/-- R58, R59 step 4: when every piece of the slot is DONE or LOST, it completes. -/
def completeIfResolved (i : SlotIx) (s : State) : State :=
  match slotAt s i with
  | some x => if x.pieces.all Piece.resolved then completeSlot i x s else s
  | none => s

/-- R60: the loss record of a lost piece. -/
def lossRecord (x : Slot) (p : Piece) (cause : LossCause) (attempts : Nat) : LossRecord :=
  { cause := cause, line := x.line, mask := p.mask, window := x.window, cls := x.cls, epoch := x.epoch,
    attempts := attempts }

/-- R59, steps 2 and 3: the loss record is handed to the fault log, and the fence unit's loss flag is set. -/
def reportLoss (r : LossRecord) (s : State) : State :=
  let s1 := addLoss r s
  s1.setFence { s1.fence with loss := true }

/-- R58: the tracker reports DONE for piece `k` of slot `i`. -/
def pieceDone (i : SlotIx) (k : Fin 8) (s : State) : State :=
  match slotAt s i with
  | some x =>
    match x.pieces[k.val]? with
    | some _ => completeIfResolved i (putSlot i (some (x.mark k.val .done)) s)
    | none => s
  | none => s

/-- R59: the tracker reports a give-up for piece `k` of slot `i`. -/
def pieceLost (i : SlotIx) (k : Fin 8) (cause : LossCause) (attempts : Nat) (s : State) : State :=
  match slotAt s i with
  | some x =>
    match x.pieces[k.val]? with
    | some p =>
      completeIfResolved i (reportLoss (lossRecord x p cause attempts) (putSlot i (some (x.mark k.val .lost)) s))
    | none => s
  | none => s

end Sys2Proof.Machine
end

