-- ==== Sys2Proof/Machine/Quiescing.lean ====
section
/-! DEFINITION. The quiesce controller (chapter 9): the QUIET condition and test (R154, R155), the commit (R161), the return to RUN (R156), the quiesce start (R153). -/

namespace Sys2Proof.Machine

/-- Put the command result (R193). -/
def setResult (r : CommandResult) (s : State) : State := s.setPort { s.port with result := r }

/-- Whether a tracker entry is an MWR in ISSUED or BACKOFF (R118, R154). -/
def TrackerEntry.writing : TrackerEntry → Bool
  | .free => false
  | .issued req _ _ => req.op.isWrite
  | .backoffWaiting req _ _ => req.op.isWrite
  | .backoffOffered req _ => req.op.isWrite
  | .late _ => false

/-- Whether a record is a DIRECT write. -/
def ReadRecord.isDirectWrite (r : ReadRecord) : Bool :=
  match r.access with
  | .write _ => true
  | .read => false

/-- R154: the QUIET condition: no slot non-EMPTY, and no write outstanding toward memory. -/
def quietCondition (s : State) : Bool :=
  noSlotLive s && allMemTags.all (fun m => !(s.trk.entries[m]).writing) &&
    s.rd.reads.all fun r => !r.isDirectWrite

/-- R156: the controller returns to RUN, and DRN_ACK is low. -/
def returnToRun (s : State) : State :=
  s.setQuiesce { s.quiesce with state := .run, drnAck := false }

/-- R161: the staged table is copied to the active one, the prefetch buffer is invalidated, COMMIT_PENDING is cleared with result DONE, and the COMMIT status is set. -/
def applyCommit (s : State) : State :=
  let s1 := invalidate (s.setWin { s.win with active := s.win.staged })
  let s2 := setResult .done (s1.setQuiesce { s1.quiesce with commitPending := false })
  setIrqBit .commit s2

/-- R155: the controller enters QUIET: a pending commit is applied, DRN_ACK rises if DRAIN_HELD is set, and with no requester left the controller returns to RUN. -/
def enterQuiet (s : State) : State :=
  let s1 := s.setQuiesce { s.quiesce with state := .quiet }
  let s2 := if s1.quiesce.commitPending then applyCommit s1 else s1
  if s2.quiesce.drainHeld then s2.setQuiesce { s2.quiesce with drnAck := true } else returnToRun s2

/-- R154, R155: the QUIET test, made in QUIESCING. -/
def quietTest (s : State) : State :=
  if s.quiesce.state == .quiescing && quietCondition s then enterQuiet s else s

/-- R153: the controller leaves RUN: seal-all, invalidate, QUIESCING, then the QUIET test. Acceptance stops with the state (R3). -/
def quiesceStart (s : State) : State :=
  let s1 := invalidate (sealAll s)
  quietTest (s1.setQuiesce { s1.quiesce with state := .quiescing })

end Sys2Proof.Machine
end

