-- ==== Sys2Proof/Machine/Accepting.lean ====
section
/-! DEFINITION. The acceptance unit: classification (R7), the dispatch by class (R10 to R15), the ordered checks of R2, and the examination anew of a waiting request (R3, R12, R14). -/

namespace Sys2Proof.Machine

/-! ### Classification (R7) -/

/-- What a classification gives a request (R7). -/
structure Classification where
  cls : AccessClass
  window : WindowIndex
  prefetch : Bool
  hold : Byte
  deriving DecidableEq, Repr

/-- R7: whether a record decides for a page: enabled, and base ≤ page ≤ limit. -/
def WindowRecord.decides (w : WindowRecord) (p : Page) : Bool :=
  w.enable && w.base.toNat ≤ p.toNat && p.toNat ≤ w.limit.toNat

/-- R7: the first record that decides gives class, index, prefetch enable and hold time; else the default class, DEFAULT, no prefetch and the default hold time. -/
def classify (w : Windows) (p : Page) : Classification :=
  match (List.finRange 8).find? (fun n => (w.active.recs[n]).decides p) with
  | some n =>
    { cls := (w.active.recs[n]).cls, window := .win n, prefetch := (w.active.recs[n]).prefetch,
      hold := (w.active.recs[n]).hold }
  | none => { cls := w.active.dflt, window := .default, prefetch := false, hold := w.defaultHold }

/-! ### Writes to the combining buffer -/

/-- R22, R78: the tags of the pending records whose span lies in a line, in acceptance order. -/
def pendingTagsOfLine (s : State) (l : Line) : List Tag :=
  (s.rd.reads.filter fun r => r.span.line == l).map (·.tag)

/-- R21: the hold timer of a slot at opening. -/
def openingTimer (c : Classification) : Option Nat :=
  if c.cls == .combine && c.hold != 0 then some c.hold.toNat else none

/-- R21, R22: the slot record that a write opens. -/
def openedSlot (r : Request) (c : Classification) (s : State) : Slot :=
  { line := r.span.line, valid := r.span.mask, data := takeLanes r.span.mask r.data, window := c.window,
    cls := c.cls, epoch := s.fence.epoch, phase := .filling (openingTimer c), waiters := [],
    blockers := pendingTagsOfLine s r.span.line, lost := false }

/-- R21: slot `i` is opened for a write and takes the last place of the age list. -/
def openSlot (i : SlotIx) (r : Request) (c : Classification) (s : State) : State :=
  s.setBuf { slots := s.buf.slots.set i (some (openedSlot r c s)), ages := s.buf.ages ++ [i] }

/-- R23: a write merges into a slot record. -/
def Slot.merge (x : Slot) (r : Request) : Slot :=
  { x with valid := x.valid ||| r.span.mask, data := mergeLanes r.span.mask r.data x.data }

/-- R23: a write merges into slot `i`. -/
def mergeSlot (i : SlotIx) (r : Request) (s : State) : State :=
  match slotAt s i with
  | some x => putSlot i (some (x.merge r)) s
  | none => s

/-- R29: a confirmed write's tag is appended to the slot's waiter list. -/
def addWaiter (i : SlotIx) (t : Tag) (s : State) : State :=
  match slotAt s i with
  | some x => putSlot i (some { x with waiters := x.waiters ++ [t] }) s
  | none => s

/-- Whether every valid flag of a slot is set (R25). -/
def slotFull (s : State) (i : SlotIx) : Bool :=
  match slotAt s i with
  | some x => x.valid == BitVec.allOnes 64
  | none => false

/-- R25, R29, R30: the seal triggers an opening or merging write calls for; the slot is sealed once. -/
def sealTriggers (i : SlotIx) (r : Request) (c : Classification) (s : State) : State :=
  if slotFull s i || r.confirm || c.cls == .sequence then sealSlot i s else s

/-- R12: the answer of an accepted write: a posted one is answered WACK OK at once, a confirmed one becomes a waiter of the slot. -/
def answerWrite (i : SlotIx) (r : Request) (s : State) : State :=
  if r.confirm then setTag r.tag .confirmWrite (addWaiter i r.tag s) else pushResponse (.wackOk r.tag) s

/-- R12: the rest of a write's acceptance, once its bytes are in slot `i`: the answer, the seal triggers, the write report (R10, R109). -/
def finishWrite (i : SlotIx) (r : Request) (c : Classification) (s : State) : State :=
  writeReport r.span.line (sealTriggers i r c (answerWrite i r s))

/-- R12, R24: the FILLING slot a write merges into; a SEQUENCE write never merges (R30). -/
def mergeTarget (r : Request) (c : Classification) (s : State) : Option SlotIx :=
  if c.cls == .combine then fillingOfLine s r.span.line else none

/-- R12: a WRITE in COMBINE or SEQUENCE: it merges, opens the lowest-indexed EMPTY slot, or, with none EMPTY, makes the pressure seal (R36) and waits on the link. -/
def acceptWrite (m : IReqMsg) (r : Request) (c : Classification) (s : State) : State :=
  match mergeTarget r c s with
  | some i => finishWrite i r c (mergeSlot i r (takeHead s))
  | none =>
    match firstEmptySlot s with
    | some i => finishWrite i r c (openSlot i r c (takeHead s))
    | none => setHead (some m) (pressureSeal s)

/-! ### Reads -/

/-- The record a READ of a COMBINE or SEQUENCE window would have (R76). -/
def readRecord (r : Request) (c : Classification) (st : ReadState) : ReadRecord :=
  { tag := r.tag, access := .read, span := r.span, window := c.window, cls := c.cls,
    prefetch := c.prefetch && c.cls == .combine, state := st }

/-- Whether a slot has every byte of a span valid (R37). -/
def slotCovers (s : State) (i : SlotIx) (sp : Span) : Bool :=
  match slotAt s i with
  | some x => covers x.valid sp.mask
  | none => false

/-- The data of a slot. -/
def slotData (s : State) (i : SlotIx) : Lanes :=
  match slotAt s i with
  | some x => x.data
  | none => zeroLanes

/-- R80: a read is forwarded from slot `i`. -/
def forwardRead (i : SlotIx) (r : ReadRecord) (s : State) : State :=
  answerRead (readData r (slotData s i)) s

/-- R13, R79: a READ in COMBINE or SEQUENCE: with slots of its line, forwarded from the youngest if that covers the span (R80), else waiting on all of them (R81, R35); without, routed by steps 2 and 3. -/
def acceptRead (r : Request) (c : Classification) (s : State) : State :=
  let s1 := setTag r.tag .read (takeHead s)
  match youngestOfLine s1 r.span.line with
  | some i =>
    if slotCovers s1 i r.span then forwardRead i (readRecord r c .waitGrant) s1
    else sealLine r.span.line (putRead (readRecord r c (.waitDeps (slotsOfLine s1 r.span.line))) s1)
  | none => routeRead (readRecord r c .waitGrant) s1

/-! ### Fences, DIRECT and REJECT -/

/-- R68, steps 1 to 3: seal-all, the record, the epoch's advance. -/
def recordFence (t : Tag) (s : State) : State :=
  let s1 := sealAll s
  s1.setFence
    { s1.fence with list := s1.fence.list ++ [{ tag := t, epoch := s1.fence.epoch }], epoch := s1.fence.epoch + 1 }

/-- R14, R67, R68: a FENCE is accepted while the list holds fewer than 4 records, else it waits on the link. -/
def acceptFence (m : IReqMsg) (r : Request) (s : State) : State :=
  if s.fence.list.length < 4 then
    fenceTest (recordFence r.tag (setTag r.tag .fence (takeHead s)))
  else setHead (some m) s

/-- The DIRECT record of a request (R91). -/
def directRecord (op : AccessOp) (r : Request) (c : Classification) : ReadRecord :=
  { tag := r.tag
    access := match op with
      | .read => .read
      | .write => .write (takeLanes r.span.mask r.data)
    span := r.span, window := c.window, cls := .direct, prefetch := false
    state := .directWait .held false }

/-- R15, R91: a DIRECT access is accepted: its tag entry and record are made, every FILLING slot is sealed, a WRITE is reported to the prefetch buffer (R10), and the release is tested (R92). -/
def acceptDirect (op : AccessOp) (r : Request) (c : Classification) (s : State) : State :=
  let s1 := sealAll (putRead (directRecord op r c) (setTag r.tag (.direct op) (takeHead s)))
  let s2 := match op with
    | .read => s1
    | .write => writeReport r.span.line s1
  directTest s2

/-- The ERROR answer of a request, by its operation: a WACK for a WRITE, an RDATA without data else (R5, R11). -/
def errorAnswer (r : Request) (why : Reason) : Response :=
  match r.op with
  | .write => .wackError r.tag why
  | .read => .rdataError r.tag why
  | .fence => .rdataError r.tag why
  | .unknown => .rdataError r.tag why

/-- R11: a REJECT access is answered ERROR REJECTED. -/
def rejectRequest (r : Request) (s : State) : State := pushResponse (errorAnswer r .rejected) (takeHead s)

/-- R2, checks 5 to 8: a READ or WRITE goes by its class. -/
def dispatchAccess (op : AccessOp) (m : IReqMsg) (r : Request) (s : State) : State :=
  let c := classify s.win (pageOf r.span.addr)
  match c.cls, op with
  | .reject, _ => rejectRequest r s
  | .direct, _ => acceptDirect op r c s
  | .combine, .write => acceptWrite m r c s
  | .sequence, .write => acceptWrite m r c s
  | .combine, .read => acceptRead r c s
  | .sequence, .read => acceptRead r c s

/-- R4: a request whose tag is in use is consumed and dropped; the error is offered to the capture and PROTO is set. -/
def dropInUse (r : Request) (s : State) : State :=
  setIrqBit .proto (offerRequestError .tagInUse r.tag (takeHead s))

/-- R5: a malformed request is answered ERROR MALFORMED; the error is offered to the capture and PROTO is set. -/
def answerMalformed (k : RequestError) (r : Request) (s : State) : State :=
  setIrqBit .proto (offerRequestError k r.tag (pushResponse (errorAnswer r .malformed) (takeHead s)))

/-- R2, checks 4 to 8, for a well-formed request. -/
def dispatch (m : IReqMsg) (r : Request) (s : State) : State :=
  match r.op with
  | .fence => acceptFence m r s
  | .read => dispatchAccess .read m r s
  | .write => dispatchAccess .write m r s
  | .unknown => s

/-- R2: the message presented at the head of the link is examined through the ordered checks. -/
def examine (m : IReqMsg) (s : State) : State :=
  let r := decodeRequest m
  if acceptStopped s then setHead (some m) s
  else if tagState s r.tag != .free then dropInUse r s
  else
    match malformedKind r with
    | some k => answerMalformed k r s
    | none => dispatch m r s

/-- Whether the event from `s0` to `s` ended a cause for which a request waits on the link: acceptance resumed (R3), a slot became EMPTY (R12), or a fence record was removed (R14). -/
def waitEnded (s0 s : State) : Bool :=
  (acceptStopped s0 && !acceptStopped s) || liveCount s < liveCount s0 ||
    s.fence.list.length < s0.fence.list.length

/-- R2, R40, R67, R156: after an event's other changes, the request waiting at the head is examined anew if its wait has ended. -/
def reexamine (s0 s : State) : State :=
  match s.acc.head with
  | some m => if waitEnded s0 s then examine m s else s
  | none => s

/-- What ends an event that began in `s0`: the waiting request is examined anew, then the drain engine tests eligibility once (R51; log entry 8). -/
def finishEvent (s0 s : State) : State := drainTest (reexamine s0 s)

end Sys2Proof.Machine
end

