-- ==== Sys2Proof/Machine/Granting.lean ====
section
/-! DEFINITION. The arbiter and the sending of a request: FREE count and allocation (R117), eligibility (R144), drain promotion (R146), the choice (R145), what each grant does (R148). -/

namespace Sys2Proof.Machine

/-! ### Tracker entries -/

/-- A tracker entry. -/
def entryAt (s : State) (m : MemTag) : TrackerEntry := s.trk.entries[m]

/-- Put a tracker entry. -/
def putEntry (m : MemTag) (x : TrackerEntry) (s : State) : State :=
  s.setTrk { s.trk with entries := s.trk.entries.set m x }

/-- Whether an entry is FREE. -/
def TrackerEntry.isFree : TrackerEntry → Bool
  | .free => true
  | .issued _ _ _ => false
  | .backoffWaiting _ _ _ => false
  | .backoffOffered _ _ => false
  | .late _ => false

/-- Whether an entry is ISSUED or in BACKOFF (R118). -/
def TrackerEntry.active : TrackerEntry → Bool
  | .free => false
  | .issued _ _ _ => true
  | .backoffWaiting _ _ _ => true
  | .backoffOffered _ _ => true
  | .late _ => false

/-- R118: the number of FREE entries. -/
def freeCount (s : State) : Nat := (allMemTags.filter fun m => (entryAt s m).isFree).length

/-- R117: the lowest-numbered FREE entry. -/
def firstFree (s : State) : Option MemTag := allMemTags.find? fun m => (entryAt s m).isFree

/-! ### Sending -/

/-- R117, R119, R124, R180: a request passes to the controller under tag `m`; its entry is ISSUED with this attempts count, and its response timer is loaded with the response timeout as it stands. -/
def send (m : MemTag) (req : MemRequest) (attempts : Nat) (s : State) : State :=
  let s1 := putEntry m (.issued req attempts s.cfg.responseTimeout.toNat) s
  s1.setWires { s1.wires with mreq := some (memHeader m req.op, req.op.lanes) }

/-- R117: a first issue takes the lowest-numbered FREE entry, with attempts 0. -/
def sendFirst (req : MemRequest) (s : State) : State :=
  match firstFree s with
  | some m => send m req 0 s
  | none => s

/-! ### Eligibility and promotion -/

/-- R144: whether an offered request of a class may be granted at the FREE count `n`. -/
def grantable (n : Nat) (c : RequestClass) : OfferedRequest → Bool
  | .reissue _ => true
  | .drainHead => needed c ≤ n
  | .read _ => needed c ≤ n
  | .direct => needed c ≤ n
  | .prefetch _ => needed c ≤ n
where
  /-- R144: the FREE entries a first issue of a class needs. -/
  needed : RequestClass → Nat
    | .demand => 1
    | .drain => 1
    | .prefetch => 5

/-- Whether a record is in WAIT_DEPS. -/
def ReadRecord.isWaitDeps (r : ReadRecord) : Bool :=
  match r.state with
  | .waitDeps _ => true
  | .waitGrant => false
  | .issued => false
  | .joined _ => false
  | .directWait _ _ => false

/-- R146, condition 6: the oldest eligible SEALED slot has waited at least the promotion time. -/
def waitedLong (s : State) : Bool :=
  match promotionInput s with
  | some n => s.cfg.promotionTime.toNat ≤ n
  | none => false

/-- R146: drain is promoted when one of the six conditions holds. -/
def promoted (s : State) : Bool :=
  s.cfg.highWatermark.toNat ≤ liveCount s || !s.fence.list.isEmpty || s.rd.reads.any ReadRecord.isWaitDeps ||
    s.rd.reads.any ReadRecord.isHeld || s.quiesce.state != .run || waitedLong s

/-- R145: the grant order in force. -/
def grantOrder (s : State) : List RequestClass :=
  if promoted s then [.drain, .demand, .prefetch] else [.demand, .drain, .prefetch]

/-- The earliest-ready eligible request of the first class of a list that has one. -/
def chooseFrom (s : State) : List RequestClass → Option (RequestClass × OfferedRequest)
  | [] => none
  | c :: rest =>
    match (readyOrder s c).find? (grantable (freeCount s) c) with
    | some r => some (c, r)
    | none => chooseFrom s rest

/-- R145: the winner of a grant event, if a request is eligible. -/
def winner (s : State) : Option (RequestClass × OfferedRequest) := chooseFrom s (grantOrder s)

/-! ### What each grant does (R148, steps 2 to 4) -/

/-- R56: the drain piece `k` of slot `i` is sent and becomes ISSUED; the next WAITING piece becomes the drain head, or, with none left, the drain engine tests whether it may begin another slot. -/
def grantPiece (i : SlotIx) (x : Slot) (k : Nat) (p : Piece) (s : State) : State :=
  let req : MemRequest := { origin := .drain i (Fin.ofNat 8 k), op := pieceWrite x.line x.data p }
  let s1 := putSlot i (some (x.mark k .issued)) (sendFirst req s)
  if slotWaiting s1 i then offer .drain .drainHead s1 else drainTest s1

/-- R56: the drain head is granted. -/
def grantDrainHead (s : State) : State :=
  match issuing s with
  | none => s
  | some i =>
    match slotAt s i with
    | none => s
    | some x =>
      match firstWaiting x.pieces with
      | some (k, p) => grantPiece i x k p s
      | none => s

/-- R86: a demand read is granted: its MRD is sent, its record is ISSUED, and its trigger is offered. -/
def grantRead (t : Tag) (s : State) : State :=
  match readOf s t with
  | some r =>
    readTrigger r
      (putRead { r with state := .issued } (sendFirst { origin := .demand t, op := .mrd r.span } s))
  | none => s

/-- The pieces of a DIRECT record that is released. -/
def ReadRecord.released (r : ReadRecord) : Option (List Piece) :=
  match r.state with
  | .directWait (.released ps) _ => some ps
  | .directWait .held _ => none
  | .waitDeps _ => none
  | .waitGrant => none
  | .issued => none
  | .joined _ => none

/-- The lost flag of a DIRECT record. -/
def ReadRecord.lost (r : ReadRecord) : Bool :=
  match r.state with
  | .directWait _ lost => lost
  | .waitDeps _ => false
  | .waitGrant => false
  | .issued => false
  | .joined _ => false

/-- R94: the DIRECT head, piece `k`, is sent and becomes ISSUED; the next WAITING piece becomes the DIRECT head. -/
def grantDirectPiece (r : ReadRecord) (d : Lanes) (ps : List Piece) (k : Nat) (p : Piece) (s : State) : State :=
  let req : MemRequest := { origin := .direct r.tag (Fin.ofNat 8 k), op := pieceWrite r.span.line d p }
  let left := setOutcome ps k .issued
  let s1 := putRead { r with state := .directWait (.released left) r.lost } (sendFirst req s)
  if left.any fun q => q.outcome == .waiting then offer .demand .direct s1 else s1

/-- R93, R94: the DIRECT request is granted. -/
def grantDirect (s : State) : State :=
  match s.rd.reads.find? fun r => r.released.isSome with
  | none => s
  | some r =>
    match r.access with
    | .read => sendFirst { origin := .direct r.tag 0, op := .mrd r.span } s
    | .write d =>
      match r.released with
      | none => s
      | some ps =>
        match firstWaiting ps with
        | some (k, p) => grantDirectPiece r d ps k p s
        | none => s

/-- R104: a REQUESTED entry's MRD of the whole line is sent, and the entry becomes PENDING with its join list. -/
def grantPrefetch (e : PfIx) (s : State) : State :=
  match pfAt s e with
  | none => s
  | some x =>
    match x.state with
    | .requested joins =>
      putPf e (some { x with state := .pending joins })
        (sendFirst { origin := .prefetch e, op := .mrd { addr := lineAddr x.line, size := 64 } } s)
    | .pending _ => s
    | .valid _ => s
    | .stale _ => s

/-- R124: the request of an OFFERED entry is sent again, unchanged, under its own tag, its attempts count kept. -/
def grantReissue (m : MemTag) (s : State) : State :=
  match entryAt s m with
  | .backoffOffered req attempts => send m req attempts s
  | .free => s
  | .issued _ _ _ => s
  | .backoffWaiting _ _ _ => s
  | .late _ => s

/-- R148, steps 2 to 4, by the request granted. -/
def grantRequest (r : OfferedRequest) (s : State) : State :=
  match r with
  | .drainHead => grantDrainHead s
  | .read t => grantRead t s
  | .direct => grantDirect s
  | .prefetch e => grantPrefetch e s
  | .reissue m => grantReissue m s

/-- R141, R148: one grant event. With MREQ_READY low, or with no request eligible, no grant is made. -/
def grantStep (s : State) : State :=
  if s.arb.mreqReady then
    match winner s with
    | some (c, r) => grantRequest r (withdraw c r s)
    | none => s
  else s

end Sys2Proof.Machine
end

