-- ==== Sys2Proof/Machine/Tracking.lean ====
section
/-! DEFINITION. The transaction tracker's outcomes: DONE (R121, R128), DEFER (R122, R123), FAULT (R125), the timers (R124, R126, R130), give-ups (R127), LATE and stray responses (R129, R131), undefined responses (R188), and what each origin does with its report. -/

namespace Sys2Proof.Machine

/-! ### Reports to the origins -/

/-- R106, R107: a joined read is answered from an entry's data. -/
def answerJoined (d : Lanes) (s : State) (t : Tag) : State :=
  match readOf s t with
  | some r => answerRead (readData r d) s
  | none => s

/-- The joined reads are answered in join order. -/
def answerJoins (d : Lanes) (ts : List Tag) (s : State) : State := ts.foldl (answerJoined d) s

/-- R106: DONE for a PENDING entry: it becomes VALID and most recently used, its joined reads are answered, and with a joined read the trigger for the next line is offered. -/
def prefetchArrived (e : PfIx) (x : PfEntry) (joins : List Tag) (d : Lanes) (s : State) : State :=
  let s1 := answerJoins d joins (markMru e (putPf e (some { x with state := .valid d }) s))
  if joins.isEmpty then s1 else trigger x.line x.window s1

/-- R106, R107: DONE for a prefetch. -/
def prefetchDone (e : PfIx) (d : Lanes) (s : State) : State :=
  match pfAt s e with
  | none => s
  | some x =>
    match x.state with
    | .pending joins => prefetchArrived e x joins d s
    | .stale joins => emptyPf [e] (answerJoins d joins s)
    | .requested _ => s
    | .valid _ => s

/-- R108: a prefetch gives up: its entry becomes EMPTY and its joined reads fall back. -/
def prefetchLost (e : PfIx) (s : State) : State :=
  match pfAt s e with
  | none => s
  | some x =>
    match x.state with
    | .pending joins => fallBackAll joins (emptyPf [e] s)
    | .stale joins => fallBackAll joins (emptyPf [e] s)
    | .requested _ => s
    | .valid _ => s

/-- R95: piece `k` of a DIRECT write ends with an outcome; after the last one the WACK is placed and the record removed. -/
def directPieceEnds (r : ReadRecord) (ps : List Piece) (k : Fin 8) (o : PieceOutcome) (s : State) : State :=
  let left := setOutcome ps k.val o
  let lost := r.lost || o == .lost
  if left.all Piece.resolved then answerRead (waiterAnswer lost r.tag) s
  else putRead { r with state := .directWait (.released left) lost } s

/-- R93, R95: the report to the DIRECT path: the answer of a DIRECT read, or the outcome of piece `k` of a DIRECT write. -/
def directReport (t : Tag) (k : Fin 8) (readAnswer : ReadRecord → Response) (o : PieceOutcome) (s : State) : State :=
  match readOf s t with
  | none => s
  | some r =>
    match r.access with
    | .read => answerRead (readAnswer r) s
    | .write _ =>
      match r.released with
      | some ps => directPieceEnds r ps k o s
      | none => s

/-- R128: DONE is reported to the origin, with the returned data. -/
def reportDone (req : MemRequest) (d : Lanes) (s : State) : State :=
  match req.origin with
  | .drain i k => pieceDone i k s
  | .demand t => answerJoined d s t
  | .direct t k => directReport t k (fun r => readData r d) .done s
  | .prefetch e => prefetchDone e d s

/-- R88: a demand read whose request gave up is answered ERROR MEMORY. -/
def readLost (t : Tag) (s : State) : State :=
  match readOf s t with
  | some r => answerRead (.rdataError r.tag .memory) s
  | none => s

/-- R127: a give-up is reported to the origin, with its cause and the attempts count. -/
def reportGiveUp (req : MemRequest) (cause : LossCause) (attempts : Nat) (s : State) : State :=
  match req.origin with
  | .drain i k => pieceLost i k cause attempts s
  | .demand t => readLost t s
  | .direct t k => directReport t k (fun r => .rdataError r.tag .memory) .lost s
  | .prefetch e => prefetchLost e s

/-! ### Responses -/

/-- What ends an event that took a report from the tracker: the QUIET test (R154), then the event's own end. -/
def settle (s0 s : State) : State := finishEvent s0 (quietTest s)

/-- R129: a response for a LATE entry is absorbed. -/
def absorb (m : MemTag) (s : State) : State :=
  let s1 := putEntry m .free s
  setIrqBit .late (s1.setTrk { s1.trk with lateCount := bumpCount s1.trk.lateCount })

/-- R131: a response for a FREE or BACKOFF entry is stray. -/
def stray (m : MemTag) (s : State) : State := setIrqBit .proto (offerMemoryError .stray m s)

/-- R188: a response of undefined kind. -/
def badResponse (m : MemTag) (s : State) : State := setIrqBit .proto (offerMemoryError .badResp m s)

/-- R121: DONE for an ISSUED entry: the report, then FREE. -/
def doneIssued (m : MemTag) (req : MemRequest) (d : Lanes) (s : State) : State :=
  settle s (putEntry m .free (reportDone req d s))

/-- R127: a give-up of entry `m`, which then becomes `after`. -/
def giveUp (m : MemTag) (after : TrackerEntry) (req : MemRequest) (cause : LossCause) (attempts : Nat) (s : State) :
    State :=
  settle s (putEntry m after (reportGiveUp req cause attempts s))

/-- R120, R121: a DONE taken for memory tag `m`. -/
def takeDone (m : MemTag) (d : Lanes) (s : State) : State :=
  match entryAt s m with
  | .issued req _ _ => doneIssued m req d s
  | .late _ => absorb m s
  | .free => stray m s
  | .backoffWaiting _ _ _ => stray m s
  | .backoffOffered _ _ => stray m s

/-- Whether a request is a prefetch's. -/
def MemRequest.isPrefetch (req : MemRequest) : Bool :=
  match req.origin with
  | .prefetch _ => true
  | .drain _ _ => false
  | .demand _ => false
  | .direct _ _ => false

/-- R123: the backoff duration at an attempts count. -/
def backoffTicks (base : Byte) (attempts : Nat) : Nat := base.toNat * 2 ^ min (attempts - 1) 5

/-- R122, R123: DEFER for an ISSUED entry whose attempts count becomes `a`. -/
def deferIssued (m : MemTag) (req : MemRequest) (a : Nat) (s : State) : State :=
  if req.isPrefetch || s.cfg.retryLimit.toNat < a then giveUp m .free req .deferLimit a s
  else putEntry m (.backoffWaiting req a (backoffTicks s.cfg.backoffBase a)) s

/-- R120, R122: a DEFER taken for memory tag `m`. -/
def takeDefer (m : MemTag) (s : State) : State :=
  match entryAt s m with
  | .issued req attempts _ => deferIssued m req (attempts + 1) s
  | .late _ => absorb m s
  | .free => stray m s
  | .backoffWaiting _ _ _ => stray m s
  | .backoffOffered _ _ => stray m s

/-- R120, R125: a FAULT taken for memory tag `m`. -/
def takeFault (m : MemTag) (s : State) : State :=
  match entryAt s m with
  | .issued req attempts _ => giveUp m .free req .memFault attempts s
  | .late _ => absorb m s
  | .free => stray m s
  | .backoffWaiting _ _ _ => stray m s
  | .backoffOffered _ _ => stray m s

/-! ### Expiries -/

/-- Whether a running timer with `n` ticks left may expire: R26, R119, R123 and R130 give the expiry between one tick before the loaded count has run down and the tick at which it has (log entry 6). -/
def expiring (n : Nat) : Bool := n ≤ 1

/-- R126: the reclaim duration, 16 times the response timeout as it stands. -/
def reclaimTicks (s : State) : Nat := 16 * s.cfg.responseTimeout.toNat

/-- R119, R126: the response timer of entry `m` expires. -/
def responseExpires (m : MemTag) (s : State) : State :=
  match entryAt s m with
  | .issued req attempts n =>
    if expiring n then giveUp m (.late (reclaimTicks s)) req .timeout attempts s else s
  | .free => s
  | .backoffWaiting _ _ _ => s
  | .backoffOffered _ _ => s
  | .late _ => s

/-- R124: the class of an origin's re-issue. A prefetch has none (R122); it is given its own class. -/
def Origin.cls : Origin → RequestClass
  | .drain _ _ => .drain
  | .demand _ => .demand
  | .direct _ _ => .demand
  | .prefetch _ => .prefetch

/-- R123, R124: the backoff timer of entry `m` expires, and its re-issue is offered. -/
def backoffExpires (m : MemTag) (s : State) : State :=
  match entryAt s m with
  | .backoffWaiting req attempts n =>
    if expiring n then offer req.origin.cls (.reissue m) (putEntry m (.backoffOffered req attempts) s) else s
  | .free => s
  | .issued _ _ _ => s
  | .backoffOffered _ _ => s
  | .late _ => s

/-- R130: the reclaim timer of entry `m` expires. -/
def reclaimExpires (m : MemTag) (s : State) : State :=
  match entryAt s m with
  | .late n => if expiring n then putEntry m .free s else s
  | .free => s
  | .issued _ _ _ => s
  | .backoffWaiting _ _ _ => s
  | .backoffOffered _ _ => s

/-- R26, R27: the hold timer of slot `i` expires, and the FILLING slot is sealed. -/
def holdExpires (i : SlotIx) (s : State) : State :=
  match slotAt s i with
  | some x =>
    match x.phase with
    | .filling (some n) => if expiring n then drainTest (sealSlot i s) else s
    | .filling none => s
    | .sealed => s
    | .draining _ => s
  | none => s

/-! ### The tick -/

/-- The count after one tick; a timer in its last tick is left to its expiry in the same tick. -/
def countDown (n : Nat) : Nat := if expiring n then n else n - 1

/-- One tick of a slot's hold timer (R26). -/
def Slot.tick (x : Slot) : Slot :=
  match x.phase with
  | .filling (some n) => { x with phase := .filling (some (countDown n)) }
  | .filling none => x
  | .sealed => x
  | .draining _ => x

/-- One tick of an entry's timers (R119, R123, R130). -/
def TrackerEntry.tick : TrackerEntry → TrackerEntry
  | .issued req a n => .issued req a (countDown n)
  | .backoffWaiting req a n => .backoffWaiting req a (countDown n)
  | .late n => .late (countDown n)
  | .free => .free
  | .backoffOffered req a => .backoffOffered req a

/-- R46, R26, R119, R123, R130: every age count rises and every running timer falls by one. -/
def countTick (s : State) : State :=
  let s1 := s.setDrain { queue := s.drain.queue.map fun e => { e with age := e.age + 1 } }
  let s2 := s1.setBuf { s1.buf with slots := Vector.ofFn fun i => (s1.buf.slots[i]).map Slot.tick }
  s2.setTrk { s2.trk with entries := Vector.ofFn fun m => (s2.trk.entries[m]).tick }

/-- Whether a slot's hold timer is in its last tick. -/
def holdDue (s : State) (i : SlotIx) : Bool :=
  match slotAt s i with
  | some x =>
    match x.phase with
    | .filling (some n) => expiring n
    | .filling none => false
    | .sealed => false
    | .draining _ => false
  | none => false

/-- Whether a tracker entry's timer is in its last tick. -/
def TrackerEntry.due : TrackerEntry → Bool
  | .issued _ _ n => expiring n
  | .backoffWaiting _ _ n => expiring n
  | .late n => expiring n
  | .free => false
  | .backoffOffered _ _ => false

/-- The expiry of entry `m`'s timer, by the timer that runs. -/
def entryExpires (m : MemTag) (s : State) : State :=
  match entryAt s m with
  | .issued _ _ _ => responseExpires m s
  | .backoffWaiting _ _ _ => backoffExpires m s
  | .late _ => reclaimExpires m s
  | .free => s
  | .backoffOffered _ _ => s

/-- The slots' and then the entries' expiries, each list in its order, every one an event of its own. -/
def expireAll (slots : List SlotIx) (entries : List MemTag) (s : State) : State :=
  entries.foldl (fun u m => entryExpires m u) (slots.foldl (fun u i => holdExpires i u) s)

/-- One tick of the time base (log entry 5): the counts move, and every timer that was in its last tick expires, slots first, then tracker entries, by index. -/
def tick (s : State) : State :=
  expireAll (allSlots.filter (holdDue s)) (allMemTags.filter fun m => (entryAt s m).due) (countTick s)

end Sys2Proof.Machine
end

