-- ==== Sys2Proof/Machine/Resetting.lean ====
section
/-! DEFINITION. The resets: DP_RESET (R194), DP_RESET_FORCE (R195) block by block, and power-on or RST_N (R197). -/

namespace Sys2Proof.Machine

/-! ### DP_RESET (R194) -/

/-- R194: whether the part is idle. -/
def idle (s : State) : Bool :=
  noSlotLive s && allMemTags.all (fun m => !(entryAt s m).active) && allTags.all (fun t => tagState s t == .free) &&
    s.fence.list.isEmpty

/-- R113, R114: the prefetch buffer's reset state. -/
def PrefetchBuffer.reset : PrefetchBuffer := { entries := Vector.replicate 4 none, recency := [0, 1, 2, 3] }

/-- R74, R113: what DP_RESET changes in an idle part: epoch, loss flag, prefetch buffer and its requests. -/
def resetSettled (s : State) : State :=
  let s1 := s.setFence { s.fence with epoch := 0, loss := false }
  let s2 := s1.setPf PrefetchBuffer.reset
  s2.setArb { s2.arb with prefetch := [] }

/-- R194: the DP_RESET command. -/
def takeDpReset (s : State) : State :=
  if idle s then resetSettled (setResult .done s) else setResult .refused s

/-! ### DP_RESET_FORCE (R195) -/

/-- R17: the answer of a tag in a waiting state. -/
def resetAnswer (t : Tag) : TagState → Option Response
  | .free => none
  | .read => some (.rdataError t .reset)
  | .confirmWrite => some (.wackError t .reset)
  | .fence => some (.fack t true)
  | .direct .read => some (.rdataError t .reset)
  | .direct .write => some (.wackError t .reset)
  | .responding => none

/-- R17: one tag of the walk. -/
def answerReset (s : State) (t : Tag) : State :=
  match resetAnswer t (tagState s t) with
  | some r => pushResponse r s
  | none => s

/-- R17: the walk of the tag table, ascending. -/
def answerAllReset (s : State) : State := allTags.foldl answerReset s

/-- The bytes of a slot that lie in a DONE piece (R44). -/
def Slot.doneMask (x : Slot) : ByteMask :=
  x.pieces.foldl (fun m p => if p.outcome == .done then m ||| p.mask else m) 0

/-- R44: the loss record of a discarded slot. -/
def discardRecord (x : Slot) : LossRecord :=
  { cause := .resetDiscard, line := x.line, mask := x.valid &&& ~~~x.doneMask, window := x.window, cls := x.cls,
    epoch := x.epoch, attempts := 0 }

/-- R44: one slot of the age list hands its record. -/
def discardSlot (s : State) (i : SlotIx) : State :=
  match slotAt s i with
  | some x => addLoss (discardRecord x) s
  | none => s

/-- R44: every non-EMPTY slot hands its record, in the order of the age list, and is emptied. -/
def discardSlots (s : State) : State :=
  (s.buf.ages.foldl discardSlot s).setBuf { slots := Vector.replicate 16 none, ages := [] }

/-- R139: the tracker's part for one entry. -/
def TrackerEntry.force (reclaim : Nat) : TrackerEntry → TrackerEntry
  | .issued _ _ _ => .late reclaim
  | .backoffWaiting _ _ _ => .free
  | .backoffOffered _ _ => .free
  | .late n => .late n
  | .free => .free

/-- R139: ISSUED becomes LATE, BACKOFF becomes FREE, LATE and FREE stay. -/
def forceTracker (s : State) : State :=
  s.setTrk { s.trk with entries := Vector.ofFn fun m => (s.trk.entries[m]).force (reclaimTicks s) }

/-- R149: every ready order is emptied. -/
def emptyReady (s : State) : State := s.setArb { s.arb with demand := [], drain := [], prefetch := [] }

/-- R63, R75, R98, R114: the drain queue, the fence unit, the pending read list and the prefetch buffer. -/
def forceUnits (s : State) : State :=
  (((s.setDrain { queue := [] }).setFence { epoch := 0, list := [], loss := false }).setRd { reads := [] }).setPf
    PrefetchBuffer.reset

/-- R163: a pending commit is aborted, and the controller stands in QUIET or RUN by DRAIN_HELD. -/
def forceQuiesce (s : State) : State :=
  let s1 := if s.quiesce.commitPending then setResult .aborted s else s
  s1.setQuiesce
    { s1.quiesce with
      commitPending := false
      state := if s1.quiesce.drainHeld then .quiet else .run
      drnAck := s1.quiesce.drainHeld }

/-- R195: the DP_RESET_FORCE command, block by block, the quiesce controller last; then a waiting request is examined as R17 gives. That examination stands within the command's event, so the ready orders and the slots that R149 and R151 call empty may hold the request just accepted, its epoch may be past 0 (R75), and a request found in error sets PROTO and fills the capture, beside R176 (no status bit but LOG and LOG_OVF) and R17 (the capture is not changed): DESIGN CHOICE, log entry 25. -/
def takeDpResetForce (s : State) : State :=
  let s1 := discardSlots (answerAllReset (setResult .done s))
  finishEvent s (forceQuiesce (forceTracker (emptyReady (forceUnits s1))))

/-! ### Power-on and RST_N (R197) -/

/-- The part while reset is held (R182, R197): the reset state, with the straps not sampled anew. MREQ_READY is the controller's (log entry 13). -/
def resetHeld (s : State) : State :=
  { State.reset with
    arb := { State.reset.arb with mreqReady := s.arb.mreqReady }
    port := { State.reset.port with straps := s.port.straps }
    inReset := true
    pending := s.pending }

/-- R197, R164: reset ends: the straps are sampled, and with DRN_REQ high the quiesce controller leaves RUN at once. -/
def resetEnds (straps : BitVec 2) (drnReq : Bool) (s : State) : State :=
  let s1 := { s with port := { s.port with straps := straps }, inReset := false }
  if drnReq then quiesceStart (s1.setQuiesce { s1.quiesce with drainHeld := true }) else s1

/-- R197: the part is reset; unless `held`, the reset ends in the same command. -/
def powerOn (held : Bool) (straps : BitVec 2) (drnReq : Bool) (s : State) : State :=
  if held then resetHeld s else resetEnds straps drnReq (resetHeld s)

end Sys2Proof.Machine
end

