-- ==== Sys2Proof/Machine/Port.lean ====
section
/-! DEFINITION. The management port: the register summary as read (R192), the bytes written (R190), the commands (R193, R159, R169, R170), the transfers (R189, R168). -/

namespace Sys2Proof.Machine

/-! ### Codes of the register summary (R192, R193) -/

/-- R192: the class codes. -/
def AccessClass.code : AccessClass → BitVec 2
  | .combine => 0
  | .sequence => 1
  | .direct => 2
  | .reject => 3

/-- R192: the class of a code. -/
def classOfCode (c : BitVec 2) : AccessClass :=
  match c.toNat with
  | 0 => .combine
  | 1 => .sequence
  | 2 => .direct
  | _ => .reject

/-- R193: the result codes. -/
def CommandResult.code : CommandResult → Byte
  | .none => 0
  | .done => 1
  | .refused => 2
  | .pending => 3
  | .invalid => 4
  | .aborted => 5

/-- R192: the quiesce state codes. -/
def QuiesceState.code : QuiesceState → Byte
  | .run => 0
  | .quiescing => 1
  | .quiet => 2

/-- R192: the cause codes of the log head. -/
def LossCause.code : LossCause → Byte
  | .deferLimit => 1
  | .memFault => 2
  | .timeout => 3
  | .resetDiscard => 4

/-- R192: the window index codes of the log head. -/
def WindowIndex.code : WindowIndex → Byte
  | .win n => BitVec.ofNat 8 n.val
  | .default => 8

/-- R192: the initiator capture's kind and tag. -/
def captureCodes : Option RequestCapture → Byte × Byte
  | none => (0, 0)
  | some c =>
    (match c.kind with
      | .tagInUse => 1
      | .badOp => 2
      | .badSpan => 3, BitVec.ofNat 8 c.tag.val)

/-- R192: the memory capture's kind and tag. -/
def memCaptureCodes : Option MemoryCapture → Byte × Byte
  | none => (0, 0)
  | some c =>
    (match c.kind with
      | .stray => 1
      | .badResp => 2, BitVec.ofNat 8 c.tag.val)

/-! ### Multi-byte fields (R189: little-endian) -/

/-- Byte `k` of a field, its least significant byte being byte 0. -/
def fieldByte {n : Nat} (x : BitVec n) (k : Nat) : Byte := x.extractLsb' (8 * k) 8

/-- A page number with byte `k` written; the upper four bits of the top byte are discarded (R190). -/
def putPageByte (p : Page) (k : Nat) (v : Byte) : Page :=
  let at8 : BitVec 32 := v.setWidth 32 <<< (8 * k)
  let keep : BitVec 32 := ~~~((0xFF : BitVec 32) <<< (8 * k))
  ((p.setWidth 32 &&& keep) ||| at8).setWidth 28

/-! ### The log head (R168) -/

/-- R192: the indices of the log head, 30h to 41h. -/
def inLogHead (i : Byte) : Bool := 0x30 ≤ i.toNat && i.toNat ≤ 0x41

/-- R192: byte `k` of the log head of a record. -/
def headByte (r : LossRecord) (k : Nat) : Byte :=
  match k with
  | 0 => r.cause.code
  | 1 => r.window.code
  | 2 => r.cls.code.setWidth 8
  | 3 => r.epoch
  | 4 => BitVec.ofNat 8 r.attempts
  | _ => if k < 10 then fieldByte (lineAddr r.line) (k - 5) else fieldByte r.mask (k - 10)

/-- R168: byte `k` of the log head; with no record, cause NONE and every field zero. -/
def headImage (r : Option LossRecord) (k : Nat) : Byte :=
  match r with
  | some x => headByte x k
  | none => 0

/-! ### Reading a register (R191, R192) -/

/-- R192: the control byte of a window record. -/
def WindowRecord.control (w : WindowRecord) : Byte :=
  (w.cls.code ++ BitVec.ofBool w.prefetch ++ BitVec.ofBool w.enable).setWidth 8

/-- R192: byte `k` of a staged window record. -/
def WindowRecord.readByte (w : WindowRecord) (k : Nat) : Byte :=
  if k = 0 then w.control
  else if k = 1 then w.hold
  else if k < 6 then fieldByte w.base (k - 2)
  else if k < 10 then fieldByte w.limit (k - 6)
  else 0

/-- R192: the byte a register shows; an unassigned index shows 00h. The bytes of the log head come from a copy, `head` (R168). -/
def readReg (s : State) (head : Option LossRecord) (i : Byte) : Byte :=
  match i.toNat with
  | 0x00 => Config.vendorCode
  | 0x01 => fieldByte Config.partCode 0
  | 0x02 => fieldByte Config.partCode 1
  | 0x03 => Config.revision
  | 0x08 => s.cfg.highWatermark
  | 0x09 => s.cfg.promotionTime
  | 0x0A => s.cfg.retryLimit
  | 0x0B => s.cfg.backoffBase
  | 0x0C => fieldByte s.cfg.responseTimeout 0
  | 0x0D => fieldByte s.cfg.responseTimeout 1
  | 0x0E => s.win.staged.dflt.code.setWidth 8
  | 0x0F => s.win.defaultHold
  | 0x11 => s.port.result.code
  | 0x18 => s.irq.status.setWidth 8
  | 0x19 => s.irq.mask.setWidth 8
  | 0x20 => BitVec.ofNat 8 (liveCount s)
  | 0x21 => BitVec.ofNat 8 (freeCount s)
  | 0x22 => BitVec.ofNat 8 s.fence.list.length
  | 0x23 => s.fence.epoch
  | 0x24 => s.quiesce.state.code
  | 0x25 => (BitVec.ofBool s.quiesce.drnAck).setWidth 8
  | 0x28 => (captureCodes s.acc.capture).1
  | 0x29 => (captureCodes s.acc.capture).2
  | 0x2A => (memCaptureCodes s.trk.capture).1
  | 0x2B => (memCaptureCodes s.trk.capture).2
  | 0x2C => s.trk.lateCount
  | 0x2D => BitVec.ofNat 8 s.flog.records.length
  | 0x2E => s.flog.overflow
  | n =>
    if inLogHead i then headImage head (n - 0x30)
    else if 0x50 ≤ n ∧ n < 0xD0 then
      (s.win.staged.recs[Fin.ofNat 8 ((n - 0x50) / 16)]).readByte ((n - 0x50) % 16)
    else 0

/-! ### Commands (R193) -/

/-- R159: whether every enabled staged record has its base page at or below its limit page. -/
def WindowTable.valid (w : WindowTable) : Bool :=
  (List.finRange 8).all fun n => !(w.recs[n]).enable || (w.recs[n]).base.toNat ≤ (w.recs[n]).limit.toNat

/-- R159, step 3: a valid COMMIT sets COMMIT_PENDING and acts by the state. -/
def startCommit (s : State) : State :=
  let s1 := setResult .pending (s.setQuiesce { s.quiesce with commitPending := true })
  match s.quiesce.state with
  | .run => finishEvent s (quiesceStart s1)
  | .quiescing => s1
  | .quiet => applyCommit s1

/-- R159, R162: the COMMIT command. -/
def takeCommit (s : State) : State :=
  if s.quiesce.commitPending then setResult .refused s
  else if s.win.staged.valid then startCommit s
  else setResult .invalid s

/-- R169: the LOG_POP command. -/
def takeLogPop (s : State) : State :=
  match s.flog.records with
  | [] => setResult .refused s
  | _ :: rest => setResult .done (s.setFlog { s.flog with records := rest })

/-- R170: the LOG_CLEAR_OVF command. -/
def takeLogClearOvf (s : State) : State := setResult .done (s.setFlog { s.flog with overflow := 0 })

/-- R193, R6, R132: the PROTO_CLEAR command. -/
def takeProtoClear (s : State) : State :=
  let s1 := s.setAcc { s.acc with capture := none }
  setResult .done (s1.setTrk { s1.trk with capture := none })

/-- R193: the command a code selects; an unassigned code changes nothing and is REFUSED. -/
def runCommand (code : Byte) (s : State) : State :=
  match code.toNat with
  | 1 => takeCommit s
  | 2 => takeDpReset s
  | 3 => takeDpResetForce s
  | 4 => takeLogPop s
  | 5 => takeLogClearOvf s
  | 6 => takeProtoClear s
  | _ => setResult .refused s

/-! ### Writing a register (R190) -/

/-- A write's outcome: whether the byte is acknowledged, and the state after it. -/
abbrev ByteTaken := Bool × State

/-- R190: a register whose contents are a range of numbers is range-checked on the whole byte. -/
def takeRange (lo hi : Nat) (v : Byte) (put : State → State) (s : State) : ByteTaken :=
  if lo ≤ v.toNat && v.toNat ≤ hi then (true, put s) else (false, s)

/-- R190: the low byte of the response timeout is held. -/
def holdTimeoutLow (v : Byte) (s : State) : State := s.setPort { s.port with heldLow := some v }

/-- R190: the value a high byte makes with the held low byte, or with the current low byte where none is held. -/
def joinedTimeout (v : Byte) (s : State) : BitVec 16 :=
  v ++ s.port.heldLow.getD (fieldByte s.cfg.responseTimeout 0)

/-- R190: the high byte of the response timeout; the value 0 is refused, and the held byte is dropped either way. -/
def takeTimeoutHigh (v : Byte) (s : State) : ByteTaken :=
  let s1 := s.setPort { s.port with heldLow := none }
  if joinedTimeout v s = 0 then (false, s1)
  else (true, s1.setCfg { s1.cfg with responseTimeout := joinedTimeout v s })

/-- R192: byte `k` of a staged window record is written. -/
def WindowRecord.writeByte (w : WindowRecord) (k : Nat) (v : Byte) : WindowRecord :=
  if k = 0 then
    { w with enable := v.getLsbD 0, prefetch := v.getLsbD 1, cls := classOfCode (v.extractLsb' 2 2) }
  else if k = 1 then { w with hold := v }
  else if k < 6 then { w with base := putPageByte w.base (k - 2) v }
  else if k < 10 then { w with limit := putPageByte w.limit (k - 6) v }
  else w

/-- The staged table with byte `v` written at a staged index: the default class at 0Eh, else byte `k` of a record. -/
def WindowTable.writeByte (w : WindowTable) (i v : Byte) : WindowTable :=
  if i = 0x0E then { w with dflt := classOfCode (v.extractLsb' 0 2) }
  else
    let n : Fin 8 := Fin.ofNat 8 ((i.toNat - 0x50) / 16)
    { w with recs := w.recs.set n ((w.recs[n]).writeByte ((i.toNat - 0x50) % 16) v) }

/-- R160, R190: a byte of the staged table is taken, or refused while COMMIT_PENDING is set. -/
def takeStaged (i v : Byte) (s : State) : ByteTaken :=
  if s.quiesce.commitPending then (false, s)
  else (true, s.setWin { s.win with staged := s.win.staged.writeByte i v })

/-- R174: bits written as 1 are cleared. -/
def clearStatus (v : Byte) (s : State) : State :=
  s.setIrq { s.irq with status := s.irq.status &&& ~~~(v.setWidth 5) }

/-- R175: all five mask bits take the written value. -/
def putMask (v : Byte) (s : State) : State := s.setIrq { s.irq with mask := v.setWidth 5 }

/-- R190: what a byte written at an index does; a read-only or unassigned index discards it. -/
def writeReg (i v : Byte) (s : State) : ByteTaken :=
  if isStagedIndex i then takeStaged i v s
  else
    match i.toNat with
    | 0x08 => takeRange 1 16 v (fun t => t.setCfg { t.cfg with highWatermark := v }) s
    | 0x09 => takeRange 1 255 v (fun t => t.setCfg { t.cfg with promotionTime := v }) s
    | 0x0A => takeRange 0 15 v (fun t => t.setCfg { t.cfg with retryLimit := v }) s
    | 0x0B => takeRange 1 15 v (fun t => t.setCfg { t.cfg with backoffBase := v }) s
    | 0x0C => (true, holdTimeoutLow v s)
    | 0x0D => takeTimeoutHigh v s
    | 0x0F => (true, s.setWin { s.win with defaultHold := v })
    | 0x10 => (true, runCommand v s)
    | 0x18 => (true, clearStatus v s)
    | 0x19 => (true, putMask v s)
    | _ => (true, s)

/-! ### Transfers (R189, R190) -/

/-- R189: the port's own address, 58h plus the straps. -/
def ownAddress (s : State) : BitVec 7 := 0x58 + s.port.straps.setWidth 7

/-- The byte or the address is not acknowledged. -/
def noAck (s : State) : State := s.setWires { s.wires with ack := some false }

/-- The port acknowledges a byte written at the index pointer, which then advances by one. -/
def ackByte (s : State) : State :=
  (s.setPort { s.port with index := s.port.index + 1 }).setWires { s.wires with ack := some true }

/-- R190: the port refuses a byte written at the index pointer, which stays there. -/
def nackByte (s : State) : State := noAck (s.setPort { s.port with transfer := .refused })

/-- R189, R190: a data byte is written at the index pointer: taken with ACK, or refused with NACK. -/
def takeByte (v : Byte) (s : State) : State :=
  let r := writeReg s.port.index v s
  if r.1 then ackByte r.2 else nackByte r.2

/-- R189, R190: a data byte on the bus. The port takes it in a write transfer of its own; after a refused byte of the transfer it discards it with NACK; in no transfer of its own it takes no part. -/
def dataByte (v : Byte) (s : State) : State :=
  match s.port.transfer with
  | .write => takeByte v s
  | .refused => noAck s
  | .none => noAck s
  | .read _ => noAck s

/-- R189: an address that is not the port's own is not acknowledged, and the port takes no part in the transfer. -/
def ignoreAddress (s : State) : State := noAck (s.setPort { s.port with transfer := .none })

/-- R189: a write transfer of the port's own begins, and its first data byte sets the index pointer. -/
def beginWrite (i : Byte) (s : State) : State := s.setPort { s.port with index := i, transfer := .write }

/-- R189: a start, an address byte with the write bit, and the first data byte. -/
def pointerWrite (addr : BitVec 7) (i : Byte) (s : State) : State :=
  if addr = ownAddress s then (beginWrite i s).setWires { s.wires with ack := some true } else ignoreAddress s

/-- A management write (log entry 11): the next data byte of the transfer in progress, or a transfer of its own, whose start, address and index byte `i` come first. -/
def portWrite (follows : Bool) (i v : Byte) (s : State) : State :=
  dataByte v (if follows then s else beginWrite i s)

/-- R168: the head's copy that the byte at index `i` is read from, `old` being the transfer's copy so far: one is taken where a byte of the head is the first. -/
def copyAt (i : Byte) (old : Option (Option LossRecord)) (s : State) : Option (Option LossRecord) :=
  if inLogHead i && old.isNone then some s.flog.records.head? else old

/-- R189, R191, R168: one byte is read at the index pointer, which then advances by one; `more` tells whether the transfer goes on, that is, whether the master acknowledges this byte. That `ack` records true is the model's choice (log entry 14): R189 has the port acknowledge the address byte, which comes before the first byte alone; for a further byte true records only that the port took part and sent it. -/
def readByte (old : Option (Option LossRecord)) (more : Bool) (s : State) : State :=
  let copy := copyAt s.port.index old s
  let v := readReg s (copy.getD none) s.port.index
  (s.setPort { s.port with index := s.port.index + 1, transfer := if more then .read copy else .none }).setWires
    { s.wires with ack := some true, sda := some v }

/-- R189: a further byte of the read transfer in progress; without one the port sends nothing, which `ack` records as false (log entry 14). -/
def readNext (more : Bool) (s : State) : State :=
  match s.port.transfer with
  | .read copy => readByte copy more s
  | .none => noAck s
  | .write => noAck s
  | .refused => noAck s

/-- R189: a byte of a read transfer, which begins with it where `start` is its address. -/
def portRead (start : Option (BitVec 7)) (more : Bool) (s : State) : State :=
  match start with
  | some addr => if addr = ownAddress s then readByte none more s else ignoreAddress s
  | none => readNext more s

end Sys2Proof.Machine
end

