-- ==== Sys2Proof/Machine/Commands.lean ====
section
/-! DEFINITION. The commands of the command register (R193): each is the byte of its code written at index 10h (R192). -/

namespace Sys2Proof.Machine

/-- COMMIT (R159): code 01h. -/
def execCommit (s : State) (follows : Bool := false) : Host.Outcome State Fault Refusal :=
  event s (portWrite follows 0x10 0x01)

/-- DP_RESET (R194): code 02h. -/
def execDpReset (s : State) (follows : Bool := false) : Host.Outcome State Fault Refusal :=
  event s (portWrite follows 0x10 0x02)

/-- DP_RESET_FORCE (R195): code 03h. -/
def execDpResetForce (s : State) (follows : Bool := false) : Host.Outcome State Fault Refusal :=
  event s (portWrite follows 0x10 0x03)

/-- LOG_POP (R169): code 04h. -/
def execLogPop (s : State) (follows : Bool := false) : Host.Outcome State Fault Refusal :=
  event s (portWrite follows 0x10 0x04)

/-- LOG_CLEAR_OVF (R170): code 05h. -/
def execLogClearOvf (s : State) (follows : Bool := false) : Host.Outcome State Fault Refusal :=
  event s (portWrite follows 0x10 0x05)

/-- PROTO_CLEAR (R193): code 06h. -/
def execProtoClear (s : State) (follows : Bool := false) : Host.Outcome State Fault Refusal :=
  event s (portWrite follows 0x10 0x06)

/-- UNKNOWN_COMMAND (R193): any other code. -/
def execUnknownCommand (code : Byte) (s : State) (follows : Bool := false) : Host.Outcome State Fault Refusal :=
  event s (portWrite follows 0x10 code)

end Sys2Proof.Machine
end

