-- ==== Sys2Proof/Machine/DrainLine.lean ====
section
/-! DEFINITION. The commands of the drain line: DRN_REQ_RISE and DRN_REQ_FALL (R157). -/

namespace Sys2Proof.Machine

/-- R157: DRN_REQ rises; in RUN the controller leaves RUN. -/
def drainRises (s : State) : State :=
  let s1 := s.setQuiesce { s.quiesce with drainHeld := true }
  match s.quiesce.state with
  | .run => finishEvent s (quiesceStart s1)
  | .quiescing => s1
  | .quiet => s1

/-- R157: DRN_REQ falls; with no commit pending the controller returns to RUN (R156). -/
def drainFalls (s : State) : State :=
  let s1 := s.setQuiesce { s.quiesce with drainHeld := false }
  match s.quiesce.state with
  | .run => s1
  | .quiescing => if s.quiesce.commitPending then s1 else finishEvent s (returnToRun s1)
  | .quiet => finishEvent s (returnToRun s1)

/-- DRN_REQ_RISE. -/
def execDrnReqRise (s : State) : Host.Outcome State Fault Refusal := event s drainRises

/-- DRN_REQ_FALL. -/
def execDrnReqFall (s : State) : Host.Outcome State Fault Refusal := event s drainFalls

end Sys2Proof.Machine
end

