-- ==== Sys2Proof/Machine/Initiator.lean ====
section
/-! DEFINITION. The commands of the initiator link: REQUEST_PRESENTED (R2, R178), RESPONSE_SENT (R179). -/

namespace Sys2Proof.Machine

/-- R178: what the initiator presents is examined, or is withdrawn. -/
def present (msg : Option IReqMsg) (s : State) : State :=
  match msg with
  | some m => drainTest (examine m s)
  | none => setHead none s

/-- R179, R184: the head response is sent, and its tag becomes FREE. -/
def sendResponse (s : State) : State :=
  match s.acc.queue with
  | [] => s
  | r :: rest =>
    let s1 := setTag r.tag .free (s.setAcc { s.acc with queue := rest })
    s1.setWires { s1.wires with irsp := some (r.header, r.lanes) }

/-- REQUEST_PRESENTED. -/
def execRequestPresented (msg : Option IReqMsg) (s : State) : Host.Outcome State Fault Refusal :=
  event s (present msg)

/-- RESPONSE_SENT. -/
def execResponseSent (s : State) : Host.Outcome State Fault Refusal := event s sendResponse

end Sys2Proof.Machine
end

