-- ==== Sys2Proof/Machine/MemoryLink.lean ====
section
/-! DEFINITION. The commands of the memory link: MREQ_READY_RISE and MREQ_READY_FALL (R180), GRANT (R148), DONE (R121), DEFER (R122), FAULT (R125), BAD_RESP (R188). -/

namespace Sys2Proof.Machine

/-- R180: the level of MREQ_READY. It is the controller's output, and stands whether or not the part is held in reset (log entry 13). -/
def setReady (level : Bool) (s : State) : State :=
  let s0 := s.setWires Wires.idle
  s0.setArb { s0.arb with mreqReady := level }

/-- MREQ_READY_RISE. -/
def execMreqReadyRise (s : State) : Host.Outcome State Fault Refusal := .next (setReady true s)

/-- MREQ_READY_FALL. -/
def execMreqReadyFall (s : State) : Host.Outcome State Fault Refusal := .next (setReady false s)

/-- GRANT. -/
def execGrant (s : State) : Host.Outcome State Fault Refusal := event s grantStep

/-- DONE. -/
def execDone (m : MemTag) (data : Lanes) (s : State) : Host.Outcome State Fault Refusal := event s (takeDone m data)

/-- DEFER. -/
def execDefer (m : MemTag) (s : State) : Host.Outcome State Fault Refusal := event s (takeDefer m)

/-- FAULT. -/
def execFault (m : MemTag) (s : State) : Host.Outcome State Fault Refusal := event s (takeFault m)

/-- BAD_RESP. -/
def execBadResp (m : MemTag) (s : State) : Host.Outcome State Fault Refusal := event s (badResponse m)

end Sys2Proof.Machine
end

