-- ==== Sys2Proof/Machine/Power.lean ====
section
/-! DEFINITION. The command of the reset pin and the part's own power-on reset: POWER_ON_RESET (R197). -/

namespace Sys2Proof.Machine

/-- POWER_ON_RESET. -/
def execPowerOnReset (held : Bool) (straps : BitVec 2) (drnReq : Bool) (s : State) :
    Host.Outcome State Fault Refusal :=
  .next (powerOn held straps drnReq s)

end Sys2Proof.Machine
end

