-- ==== Sys2Proof/Machine/Registers.lean ====
section
/-! DEFINITION. The register writes and the transfers of the management port (R189, R190, R191). -/

namespace Sys2Proof.Machine

/-- INTERRUPT_STATUS_WRITE (R174): index 18h. -/
def execInterruptStatusWrite (value : Byte) (s : State) (follows : Bool := false) : Host.Outcome State Fault Refusal :=
  event s (portWrite follows 0x18 value)

/-- INTERRUPT_MASK_WRITE (R175): index 19h. -/
def execInterruptMaskWrite (value : Byte) (s : State) (follows : Bool := false) : Host.Outcome State Fault Refusal :=
  event s (portWrite follows 0x19 value)

/-- RESPONSE_TIMEOUT_LOW_WRITE (R190): index 0Ch. -/
def execResponseTimeoutLowWrite (value : Byte) (s : State) (follows : Bool := false) :
    Host.Outcome State Fault Refusal :=
  event s (portWrite follows 0x0C value)

/-- RESPONSE_TIMEOUT_HIGH_WRITE (R190): index 0Dh. -/
def execResponseTimeoutHighWrite (value : Byte) (follows : Bool) (s : State) :
    Host.Outcome State Fault Refusal :=
  event s (portWrite follows 0x0D value)

/-- STAGED_TABLE_WRITE (R160). -/
def execStagedTableWrite (index value : Byte) (follows : Bool) (s : State) : Host.Outcome State Fault Refusal :=
  event s (portWrite follows index value)

/-- REGISTER_WRITE (R190). -/
def execRegisterWrite (index value : Byte) (follows : Bool) (s : State) : Host.Outcome State Fault Refusal :=
  event s (portWrite follows index value)

/-- INDEX_POINTER_WRITE (R189). -/
def execIndexPointerWrite (addr : BitVec 7) (index : Byte) (s : State) : Host.Outcome State Fault Refusal :=
  event s (pointerWrite addr index)

/-- LOG_HEAD_READ (R168). -/
def execLogHeadRead (start : Option (BitVec 7)) (more : Bool) (s : State) : Host.Outcome State Fault Refusal :=
  event s (portRead start more)

/-- READ_TRANSFER (R189). -/
def execReadTransfer (start : Option (BitVec 7)) (more : Bool) (s : State) : Host.Outcome State Fault Refusal :=
  event s (portRead start more)

end Sys2Proof.Machine
end

