-- ==== Sys2Proof/Machine/Timers.lean ====
section
/-! DEFINITION. The commands of the part's time base: the four expiries (R27, R126, R124, R130) and AGE_COUNT_TICK (R46). -/

namespace Sys2Proof.Machine

/-- HOLD_TIMER_EXPIRY. -/
def execHoldTimerExpiry (i : SlotIx) (s : State) : Host.Outcome State Fault Refusal := event s (holdExpires i)

/-- RESPONSE_TIMER_EXPIRY. -/
def execResponseTimerExpiry (m : MemTag) (s : State) : Host.Outcome State Fault Refusal :=
  event s (responseExpires m)

/-- BACKOFF_TIMER_EXPIRY. -/
def execBackoffTimerExpiry (m : MemTag) (s : State) : Host.Outcome State Fault Refusal :=
  event s (backoffExpires m)

/-- RECLAIM_TIMER_EXPIRY. -/
def execReclaimTimerExpiry (m : MemTag) (s : State) : Host.Outcome State Fault Refusal :=
  event s (reclaimExpires m)

/-- AGE_COUNT_TICK. -/
def execAgeCountTick (s : State) : Host.Outcome State Fault Refusal := event s tick

end Sys2Proof.Machine
end

