-- ==== Sys2Proof/Machine/Dispatch.lean ====
section
/-! DEFINITION. One arm per command: the command's effect on everything but the queue. -/

namespace Sys2Proof.Machine

/-- The effect of a command. -/
def exec (i : Instr) (s : State) : Host.Outcome State Fault Refusal :=
  match i with
  | .requestPresented msg => Sys2Proof.Machine.execRequestPresented msg s
  | .responseSent => Sys2Proof.Machine.execResponseSent s
  | .holdTimerExpiry slot => Sys2Proof.Machine.execHoldTimerExpiry slot s
  | .mreqReadyRise => Sys2Proof.Machine.execMreqReadyRise s
  | .mreqReadyFall => Sys2Proof.Machine.execMreqReadyFall s
  | .grant => Sys2Proof.Machine.execGrant s
  | .done m data => Sys2Proof.Machine.execDone m data s
  | .defer m => Sys2Proof.Machine.execDefer m s
  | .fault m => Sys2Proof.Machine.execFault m s
  | .badResp m => Sys2Proof.Machine.execBadResp m s
  | .responseTimerExpiry m => Sys2Proof.Machine.execResponseTimerExpiry m s
  | .backoffTimerExpiry m => Sys2Proof.Machine.execBackoffTimerExpiry m s
  | .reclaimTimerExpiry m => Sys2Proof.Machine.execReclaimTimerExpiry m s
  | .drnReqRise => Sys2Proof.Machine.execDrnReqRise s
  | .drnReqFall => Sys2Proof.Machine.execDrnReqFall s
  | .commit follows => Sys2Proof.Machine.execCommit s follows
  | .dpReset follows => Sys2Proof.Machine.execDpReset s follows
  | .dpResetForce follows => Sys2Proof.Machine.execDpResetForce s follows
  | .logPop follows => Sys2Proof.Machine.execLogPop s follows
  | .logClearOvf follows => Sys2Proof.Machine.execLogClearOvf s follows
  | .protoClear follows => Sys2Proof.Machine.execProtoClear s follows
  | .unknownCommand code follows => Sys2Proof.Machine.execUnknownCommand code s follows
  | .interruptStatusWrite value follows => Sys2Proof.Machine.execInterruptStatusWrite value s follows
  | .interruptMaskWrite value follows => Sys2Proof.Machine.execInterruptMaskWrite value s follows
  | .responseTimeoutLowWrite value follows => Sys2Proof.Machine.execResponseTimeoutLowWrite value s follows
  | .responseTimeoutHighWrite value follows => Sys2Proof.Machine.execResponseTimeoutHighWrite value follows s
  | .stagedTableWrite index value follows => Sys2Proof.Machine.execStagedTableWrite index value follows s
  | .registerWrite index value follows => Sys2Proof.Machine.execRegisterWrite index value follows s
  | .indexPointerWrite addr index => Sys2Proof.Machine.execIndexPointerWrite addr index s
  | .logHeadRead start more => Sys2Proof.Machine.execLogHeadRead start more s
  | .powerOnReset held straps drnReq => Sys2Proof.Machine.execPowerOnReset held straps drnReq s
  | .ageCountTick => Sys2Proof.Machine.execAgeCountTick s
  | .readTransfer start more => Sys2Proof.Machine.execReadTransfer start more s

end Sys2Proof.Machine
end

