-- ==== Sys2Proof/Safety.lean ====
section
/-! DEFINITION. What a state of a run keeps to: the bounds the spec gives its lists and counts, and the laws of the quiesce controller, the combining buffer and the drain queue. -/

namespace Sys2Proof.Machine

/-- R166: the fault log holds at most 8 records. -/
def LogBounded (s : State) : Prop := s.flog.records.length ≤ 8

/-- R64, R67: at most 4 fences are outstanding. -/
def FencesBounded (s : State) : Prop := s.fence.list.length ≤ 4

/-- R101: each of the four entries stands exactly once in the recency order. -/
def RecencyWhole (s : State) : Prop := s.pf.recency.Nodup ∧ ∀ e : PfIx, e ∈ s.pf.recency

/-- R147, R122, R123, R119: the thresholds are in their ranges. -/
def ThresholdsInRange (s : State) : Prop :=
  (1 ≤ s.cfg.highWatermark.toNat ∧ s.cfg.highWatermark.toNat ≤ 16) ∧ 1 ≤ s.cfg.promotionTime.toNat ∧
    s.cfg.retryLimit.toNat ≤ 15 ∧ (1 ≤ s.cfg.backoffBase.toNat ∧ s.cfg.backoffBase.toNat ≤ 15) ∧
    1 ≤ s.cfg.responseTimeout.toNat

/-- R115, R119, R123, R130: the counts of an entry: at most 15 attempts while it waits for an answer, 1 to 15 in BACKOFF; a response timer of 1 to 65535 ticks, a backoff timer of 1 to 480, a reclaim timer of 1 to 1048560. -/
def TrackerEntry.countsInRange : TrackerEntry → Bool
  | .free => true
  | .issued _ a n => a ≤ 15 && 1 ≤ n && n ≤ 65535
  | .backoffWaiting _ a n => 1 ≤ a && a ≤ 15 && 1 ≤ n && n ≤ 480
  | .backoffOffered _ a => 1 ≤ a && a ≤ 15
  | .late n => 1 ≤ n && n ≤ 1048560

/-- Every entry's counts are in their ranges. -/
def EntriesInRange (s : State) : Prop := ∀ m : MemTag, (entryAt s m).countsInRange = true

/-- R18: a running hold timer has 1 to 255 ticks left. -/
def SlotPhase.holdInRange : SlotPhase → Bool
  | .filling (some n) => 1 ≤ n && n ≤ 255
  | .filling none => true
  | .sealed => true
  | .draining _ => true

/-- R18: every hold timer is in its range. -/
def HoldsInRange (s : State) : Prop := ∀ i : SlotIx, ∀ x ∈ slotAt s i, x.phase.holdInRange = true

/-- R152, R155, R158: the controller is in RUN exactly when no requester is present; DRN_ACK is high exactly in QUIET; a QUIET part holds DRAIN_HELD and no pending commit. -/
def QuiesceLaw (q : QuiesceController) : Prop :=
  (q.state = .run ↔ q.commitPending = false ∧ q.drainHeld = false) ∧ (q.drnAck = true ↔ q.state = .quiet) ∧
    (q.state = .quiet → q.drainHeld = true ∧ q.commitPending = false)

/-- R154, R155: in QUIET the QUIET condition holds. -/
def QuietHolds (s : State) : Prop := s.quiesce.state = .quiet → quietCondition s = true

/-- R19: the age list names the non-EMPTY slots, each once. -/
def AgesWhole (s : State) : Prop := s.buf.ages.Nodup ∧ ∀ i : SlotIx, i ∈ s.buf.ages ↔ slotLive s i = true

/-- Whether a slot is SEALED or DRAINING. -/
def slotQueued (s : State) (i : SlotIx) : Bool := slotLive s i && !slotFilling s i

/-- R46: the drain queue names the SEALED and DRAINING slots, each once. -/
def DrainQueueWhole (s : State) : Prop :=
  (s.drain.queue.map (·.slot)).Nodup ∧ ∀ i : SlotIx, i ∈ s.drain.queue.map (·.slot) ↔ slotQueued s i = true

/-- R2, checks 1 to 3: outside reset, with acceptance not stopped, the presented message `m` reads as `r`, its tag is FREE and it is well formed. -/
def Admitted (s : State) (m : IReqMsg) (r : Request) : Prop :=
  s.inReset = false ∧ acceptStopped s = false ∧ decodeRequest m = r ∧ tagState s r.tag = .free ∧
    malformedKind r = none

/-- What the active table makes of a request (R7). -/
def classOf (s : State) (r : Request) : Classification := classify s.win (pageOf r.span.addr)

/-- The acceptance unit once a request is taken and answered at its acceptance (R10, R16). -/
def Acceptance.answered (a : Acceptance) (r : Response) : Acceptance :=
  { a with tags := a.tags.set r.tag .responding, queue := a.queue ++ [r], head := none }

/-- The acceptance unit once a request is taken and its tag waits in state `x` (R10). -/
def Acceptance.taken (a : Acceptance) (t : Tag) (x : TagState) : Acceptance :=
  { a with tags := a.tags.set t x, head := none }

/-- The wires of an event in which IREQ_READY is given (R178). -/
def Wires.taken : Wires := { Wires.idle with ireqReady := true }

/-- The wires of an event in which the port answers a byte or an address (R190). -/
def Wires.answer (ack : Bool) : Wires := { Wires.idle with ack := some ack }

/-- R38, R89: slots without a tag in their blocker lists. -/
def slotsWithoutBlocker (slots : Vector (Option Slot) 16) (t : Tag) : Vector (Option Slot) 16 :=
  Vector.ofFn fun i => (slots[i]).map fun x => { x with blockers := x.blockers.filter (· != t) }

/-- Whether a data byte lands at index `i` in a write transfer of the port's own (R189): the command begins the transfer there, or it is the transfer's next byte and the index pointer stands there. -/
def Lands (s : State) (follows : Bool) (i : Byte) : Prop :=
  follows = false ∨ s.port.transfer = .write ∧ s.port.index = i

/-- The port after it acknowledged a byte written at index `i` (R189, R190). -/
def ManagementPort.acked (p : ManagementPort) (i : Byte) : ManagementPort :=
  { p with index := i + 1, transfer := .write }

/-- The port after it refused a byte written at index `i` (R190). -/
def ManagementPort.refused (p : ManagementPort) (i : Byte) : ManagementPort :=
  { p with index := i, transfer := .refused }

/-! ### What a seal-all, an invalidation, the end of a slot and a give-up come to -/

/-- R31: the state after a seal-all: every FILLING slot is SEALED, and they stand last in the drain queue in the order of the age list, with age 0. -/
def afterSealAll (s : State) : State :=
  { s with
    buf :=
      { s.buf with
        slots := Vector.ofFn fun i => (s.buf.slots[i]).map fun x =>
          if x.isFilling then { x with phase := .sealed } else x }
    drain := { queue := s.drain.queue ++ (s.buf.ages.filter (slotFilling s)).map fun i => { slot := i, age := 0 } } }

/-- R112: a prefetch entry after an invalidate request: a VALID or REQUESTED one is EMPTY, a PENDING one STALE, a STALE one as it was. -/
def PfEntry.invalidated (x : PfEntry) : Option PfEntry :=
  match x.state with
  | .valid _ => none
  | .requested _ => none
  | .pending joins => some { x with state := .stale joins }
  | .stale _ => some x

/-- The join list of an entry that is REQUESTED, empty for any other. -/
def requestedJoins (s : State) (e : PfIx) : List Tag :=
  match pfAt s e with
  | some { state := .requested joins, .. } => joins
  | _ => []

/-- Whether an entry is REQUESTED. -/
def isRequested (s : State) (e : PfIx) : Bool :=
  match pfAt s e with
  | some { state := .requested _, .. } => true
  | _ => false

/-- Whether an invalidate request makes an entry EMPTY that was not (R112). -/
def isEmptied (s : State) (e : PfIx) : Bool := (pfAt s e).any fun x => (PfEntry.invalidated x).isNone

/-- R84, R108: the read unit and the arbiter after reads have fallen back: those of the tags that have a record stand in WAIT_GRANT, and their requests are offered last in class DEMAND, in the order of the list. -/
def afterFallBack (ts : List Tag) (s : State) : State :=
  { s with
    rd := { reads := s.rd.reads.map fun q => if q.tag ∈ ts then { q with state := .waitGrant } else q }
    arb := { s.arb with demand := s.arb.demand ++ (ts.filter fun t => (readOf s t).isSome).map .read } }

/-- R112, R101: the state after an invalidate request: each entry as `PfEntry.invalidated` gives; those made EMPTY first in the recency order, the PREFETCH requests of the REQUESTED ones withdrawn, and their joined reads fallen back. -/
def afterInvalidation (s : State) : State :=
  afterFallBack ((List.finRange 4).flatMap (requestedJoins s))
    { s with
      pf :=
        { entries := Vector.ofFn fun e => (s.pf.entries[e]).bind PfEntry.invalidated
          recency := s.pf.recency.filter (isEmptied s) ++ s.pf.recency.filter fun e => !isEmptied s e }
      arb :=
        { s.arb with
          prefetch := s.arb.prefetch.filter fun r =>
            (List.finRange 4).all fun e => !(isRequested s e && r == .prefetch e) } }

/-- R40 steps 1 and 2, R41: slot `i` with record `x` has answered its waiters, in list order, and is EMPTY. -/
def afterEmptying (i : SlotIx) (x : Slot) (s : State) : State :=
  { s with
    acc :=
      { s.acc with
        tags := x.waiters.foldl (fun v (t : Tag) => v.set t .responding) s.acc.tags
        queue := s.acc.queue ++ x.waiters.map fun t => if x.lost then .wackError t .memory else .wackOk t }
    buf := { slots := s.buf.slots.set i none, ages := s.buf.ages.filter (· != i) }
    drain := { queue := s.drain.queue.filter fun e => e.slot != i } }

/-- R40: what follows once slot `i` is EMPTY: step 3 (R82), step 4 (R70), and the release test of the DIRECT path (R92). -/
def afterCompletion (i : SlotIx) (x : Slot) (s : State) : State :=
  directTest (fenceTest (releaseReads i (afterEmptying i x s)))

/-- R148, R117, R119, R180: the state after a first issue of `req` is sent under tag `m`: the entry is ISSUED with attempts 0 and the response timer loaded, and the message passes. -/
def afterSend (m : MemTag) (req : MemRequest) (s : State) : State :=
  { s with
    trk := { s.trk with entries := s.trk.entries.set m (.issued req 0 s.cfg.responseTimeout.toNat) }
    wires := { Wires.idle with mreq := some (memHeader m req.op, req.op.lanes) } }

/-- R89: the state after the read of record `r` is answered with `a`. -/
def afterAnswer (r : ReadRecord) (a : Response) (s : State) : State :=
  { s with
    acc := { s.acc with tags := s.acc.tags.set r.tag .responding, queue := s.acc.queue ++ [a] }
    buf := { s.buf with slots := slotsWithoutBlocker s.buf.slots r.tag }
    rd := { reads := s.rd.reads.filter fun q => q.tag != r.tag } }

/-- The pending records with the one of `r`'s tag replaced by `r`. -/
def replaceRead (r : ReadRecord) (reads : List ReadRecord) : List ReadRecord :=
  reads.map fun q => if q.tag == r.tag then r else q

/-- R125, R122, R126: command `c` makes the ISSUED entry `m`, with `a` attempts and `n` ticks left, give up with a cause and a reported attempts count, and leaves the entry as `y`. -/
def GivesUp (s : State) (m : MemTag) (a n : Nat) (c : Instr) (y : TrackerEntry) (cause : LossCause) (reported : Nat) :
    Prop :=
  c = .fault m ∧ y = .free ∧ cause = .memFault ∧ reported = a ∨
    c = .defer m ∧ s.cfg.retryLimit.toNat < a + 1 ∧ y = .free ∧ cause = .deferLimit ∧ reported = a + 1 ∨
    c = .responseTimerExpiry m ∧ n ≤ 1 ∧ y = .late (16 * s.cfg.responseTimeout.toNat) ∧ cause = .timeout ∧ reported = a

/-- R192: the bits that a register of the staged table holds: the class code of 0Eh, the four bits of a control byte, the low four bits of the top byte of a page. -/
def stagedBits (i : Byte) : Byte :=
  if i = 0x0E then 0x03
  else if (i.toNat - 0x50) % 16 = 0 ∨ (i.toNat - 0x50) % 16 = 5 ∨ (i.toNat - 0x50) % 16 = 9 then 0x0F
  else 0xFF

/-- R159: every enabled staged record has its base page at or below its limit page. -/
def StagedValid (s : State) : Prop :=
  ∀ n : Fin 8, (s.win.staged.recs[n]).enable = true →
    (s.win.staged.recs[n]).base.toNat ≤ (s.win.staged.recs[n]).limit.toNat

/-- R16: the response queue holds one response for each RESPONDING tag. -/
def ResponsesWhole (s : State) : Prop :=
  (s.acc.queue.map (·.tag)).Nodup ∧ ∀ t : Tag, t ∈ s.acc.queue.map (·.tag) ↔ tagState s t = .responding

/-- Whether a record stands on the DIRECT path (R76). -/
def ReadRecord.onDirectPath (r : ReadRecord) : Bool :=
  match r.state with
  | .directWait _ _ => true
  | .waitDeps _ => false
  | .waitGrant => false
  | .issued => false
  | .joined _ => false

/-- R1, R76: each pending record has a tag of its own that waits in READ or DIRECT, a record on the DIRECT path one in DIRECT. -/
def ReadsWhole (s : State) : Prop :=
  (s.rd.reads.map (·.tag)).Nodup ∧
    ∀ r ∈ s.rd.reads, (tagState s r.tag = .read ∨ (tagState s r.tag).isDirect = true) ∧
      (r.onDirectPath = true → (tagState s r.tag).isDirect = true)

/-- R1, R64: each outstanding fence has a tag of its own that waits in FENCE. -/
def FencesWhole (s : State) : Prop :=
  (s.fence.list.map (·.tag)).Nodup ∧ ∀ f ∈ s.fence.list, tagState s f.tag = .fence

/-- R1, R18: each waiter of a slot is a tag that waits in CONFIRM_WRITE, and waits on one slot only, once. -/
def WaitersWhole (s : State) : Prop :=
  (∀ i : SlotIx, ∀ x ∈ slotAt s i, x.waiters.Nodup ∧ ∀ t ∈ x.waiters, tagState s t = .confirmWrite) ∧
    ∀ i j : SlotIx, ∀ x ∈ slotAt s i, ∀ y ∈ slotAt s j, ∀ t ∈ x.waiters, t ∈ y.waiters → i = j

/-- The bounds of the lists and counts. -/
def Bounded (s : State) : Prop :=
  LogBounded s ∧ FencesBounded s ∧ RecencyWhole s ∧ ThresholdsInRange s ∧ EntriesInRange s ∧ HoldsInRange s

/-- The quiesce controller's laws. -/
def QuiesceSafe (s : State) : Prop := QuiesceLaw s.quiesce ∧ QuietHolds s

/-- The combining buffer's and the drain queue's laws. -/
def BufferWhole (s : State) : Prop := AgesWhole s ∧ DrainQueueWhole s

/-- Every tag the units hold stands in the upstream tag table as they need it. -/
def TagsWhole (s : State) : Prop := ResponsesWhole s ∧ ReadsWhole s ∧ FencesWhole s ∧ WaitersWhole s

end Sys2Proof.Machine
end

