-- ==== Sys2Proof/Certificates/Slice0/Obligations.lean ====
section
/-! DEFINITION. The statements for the provers. A block or a field that the next state of a statement does not name is unchanged: the next state is written as the old one with the named blocks replaced. `drainTest` ends every event that can change eligibility (R51); what it does is the statement DrainTestBeginsOneSlot. `finishEvent` and `quietTest` end the events that can end a request's wait or meet the QUIET condition; what they do is the statement EventEnds. The operands of the commands are log entry 3; the wires of an event are log entry 14. -/

open Sys2Proof Sys2Proof.Machine

/-! ### Steps -/

/-- The model's queue (log entry 10): a step takes the front command and runs exec on it with the queue's rest; on an empty queue the block idles. -/
def Obligations.StepTakesFront : Prop :=
  (∀ (c : Instr) (rest : List Instr) (s : State), step (s.setPending (c :: rest)) = exec c (s.setPending rest)) ∧
    ∀ s : State, s.pending = [] → step s = .next s

/-- Every command completes in every state and leaves the queue as it is: none faults and none is refused (log entry 23). -/
def Obligations.EveryCommandCompletes : Prop :=
  ∀ (c : Instr) (s : State), ∃ t : State, exec c s = .next t ∧ t.pending = s.pending

/-- While RST_N is held low, every command but POWER_ON_RESET and the two of MREQ_READY leaves the part as it is, with nothing on the wires (R182, R197; log entry 13). -/
def Obligations.HeldResetIgnoresCommands : Prop :=
  ∀ (c : Instr) (s : State), s.inReset = true → (∀ h a d, c ≠ .powerOnReset h a d) → c ≠ .mreqReadyRise →
    c ≠ .mreqReadyFall → exec c s = .next (s.setWires Wires.idle)

/-- R3, R12, R14, R40, R51, R67, R154 to R156: how an event ends. A request that waits on the link is examined anew, as REQUEST_PRESENTED examines one, exactly where the event resumed acceptance, emptied a slot or removed a fence (which of the three it waited for is not kept: log entry 8, deduced); then the drain engine makes its test. The QUIET test passes in QUIESCING under the QUIET condition alone. Then a pending commit is applied (R161, afterInvalidation), and the controller stands in QUIET with DRN_ACK high, or, with DRAIN_HELD clear, in RUN. In afterInvalidation the reads of two REQUESTED entries join class DEMAND by entry index, which is the model's choice (log entry 9). -/
def Obligations.EventEnds : Prop :=
  (∀ (s : State) (m : IReqMsg), s.inReset = false →
    exec (.requestPresented (some m)) s = .next (drainTest (examine m (s.setWires Wires.idle)))) ∧
  (∀ (s0 s : State) (ended : Prop),
    ended =
      (acceptStopped s0 = true ∧ acceptStopped s = false ∨ liveCount s < liveCount s0 ∨
        s.fence.list.length < s0.fence.list.length) →
    (∀ m, s.acc.head = some m → ended → finishEvent s0 s = drainTest (examine m s)) ∧
    ((s.acc.head = none ∨ ¬ended) → finishEvent s0 s = drainTest s)) ∧
  (∀ s : State, acceptStopped s = true ↔
    s.quiesce.state ≠ .run ∨ ∃ (t : Tag) (op : AccessOp), tagState s t = .direct op) ∧
  (∀ s : State, quietCondition s = true ↔
    (∀ i, slotAt s i = none) ∧ (∀ r ∈ s.rd.reads, r.access = .read) ∧
      ∀ m req, ((∃ a n, entryAt s m = .issued req a n) ∨ (∃ a n, entryAt s m = .backoffWaiting req a n) ∨
        ∃ a, entryAt s m = .backoffOffered req a) → ∃ sp, req.op = .mrd sp) ∧
  ∀ (s : State) (after : QuiesceController),
    after =
      { state := if s.quiesce.drainHeld then .quiet else .run, commitPending := false
        drainHeld := s.quiesce.drainHeld, drnAck := s.quiesce.drainHeld } →
    ((s.quiesce.state ≠ .quiescing ∨ quietCondition s = false) → quietTest s = s) ∧
    (s.quiesce.state = .quiescing → quietCondition s = true →
      (s.quiesce.commitPending = false → quietTest s = { s with quiesce := after }) ∧
      (s.quiesce.commitPending = true → TagsWhole s → quietTest s =
        { afterInvalidation s with
          win := { s.win with active := s.win.staged }
          quiesce := after
          irq := { s.irq with status := s.irq.status ||| 16 }
          port := { s.port with result := .done } }))

/-! ### The initiator link -/

/-- R179: the head response is sent, leaves the queue, and its tag becomes FREE; with an empty queue nothing is sent. -/
def Obligations.ResponseSentFreesTag : Prop :=
  (∀ (s : State) (r : Response) (rest : List Response), s.inReset = false → s.acc.queue = r :: rest →
    exec .responseSent s = .next
      { s with
        acc := { s.acc with queue := rest, tags := s.acc.tags.set r.tag .free }
        wires := { Wires.idle with irsp := some (r.header, r.lanes) } }) ∧
    ∀ s : State, s.inReset = false → s.acc.queue = [] → exec .responseSent s = .next (s.setWires Wires.idle)

/-- R3, R178: while the controller is in QUIESCING or QUIET, or a tag is DIRECT, what is presented waits at the head of the link in place of what waited there (log entry 7), unexamined; a request withdrawn before it is taken leaves the link, and nothing else changes. -/
def Obligations.RequestWaitsOrLeaves : Prop :=
  (∀ (s : State) (m : IReqMsg), s.inReset = false →
    (s.quiesce.state ≠ .run ∨ ∃ (t : Tag) (op : AccessOp), tagState s t = .direct op) →
    exec (.requestPresented (some m)) s = .next
      (drainTest { s with acc := { s.acc with head := some m }, wires := Wires.idle })) ∧
    ∀ s : State, s.inReset = false →
      exec (.requestPresented none) s = .next { s with acc := { s.acc with head := none }, wires := Wires.idle }

/-- R4, R6: a request whose tag is in use is consumed and dropped; the error is recorded where the capture holds nothing; PROTO (bit 3) is set. -/
def Obligations.TagInUseDropped : Prop :=
  ∀ (s : State) (m : IReqMsg) (r : Request), s.inReset = false → acceptStopped s = false → decodeRequest m = r →
    tagState s r.tag ≠ .free →
    exec (.requestPresented (some m)) s = .next (drainTest
      { s with
        acc := { s.acc with head := none, capture := some (s.acc.capture.getD { kind := .tagInUse, tag := r.tag }) }
        irq := { s.irq with status := s.irq.status ||| 8 }
        wires := Wires.taken })

/-- R5, R6: a malformed request with a FREE tag is answered ERROR MALFORMED, a WACK for a WRITE and an RDATA without data otherwise; the error is recorded where the capture holds nothing; PROTO is set. -/
def Obligations.MalformedAnswered : Prop :=
  ∀ (s : State) (m : IReqMsg) (r : Request) (k : RequestError), s.inReset = false → acceptStopped s = false →
    decodeRequest m = r → tagState s r.tag = .free →
    (r.op = .unknown ∧ k = .badOp ∨
      (r.op = .read ∨ r.op = .write) ∧ k = .badSpan ∧
        (r.span.size = 0 ∨ 64 < r.span.size ∨ 64 < offsetOf r.span.addr + r.span.size)) →
    exec (.requestPresented (some m)) s = .next (drainTest
      { s with
        acc :=
          { s.acc.answered (if r.op = .write then .wackError r.tag .malformed else .rdataError r.tag .malformed) with
            capture := some (s.acc.capture.getD { kind := k, tag := r.tag }) }
        irq := { s.irq with status := s.irq.status ||| 8 }
        wires := Wires.taken })

/-- R7: the lowest-indexed enabled record whose pages hold the request's page decides; with none, the default class, DEFAULT, no prefetch and the default hold time. -/
def Obligations.LowestWindowDecides : Prop :=
  ∀ (w : Windows) (p : Page),
    (∀ n : Fin 8, (w.active.recs[n]).decides p = true → (∀ k : Fin 8, k < n → (w.active.recs[k]).decides p = false) →
      classify w p =
        { cls := (w.active.recs[n]).cls, window := .win n, prefetch := (w.active.recs[n]).prefetch,
          hold := (w.active.recs[n]).hold }) ∧
    ((∀ k : Fin 8, (w.active.recs[k]).decides p = false) →
      classify w p = { cls := w.active.dflt, window := .default, prefetch := false, hold := w.defaultHold }) ∧
    ∀ x : WindowRecord, x.decides p = true ↔ x.enable = true ∧ x.base.toNat ≤ p.toNat ∧ p.toNat ≤ x.limit.toNat

/-- R11: a READ or WRITE of class REJECT is answered ERROR REJECTED at its acceptance. -/
def Obligations.RejectedAnswered : Prop :=
  ∀ (s : State) (m : IReqMsg) (r : Request), Admitted s m r → (r.op = .read ∨ r.op = .write) →
    (classOf s r).cls = .reject →
    exec (.requestPresented (some m)) s = .next (drainTest
      { s with
        acc := s.acc.answered (if r.op = .write then .wackError r.tag .rejected else .rdataError r.tag .rejected)
        wires := Wires.taken })

/-- R12, R21, R22, R25, R29, R30: a COMBINE write to a line that no slot is FILLING for, and every SEQUENCE write, opens the lowest-indexed EMPTY slot. A posted write is answered WACK OK; a confirmed one waits on the slot. A write of 64 bytes, a confirmed one and a SEQUENCE one seal the slot, which then stands last in the drain queue with age 0. Then the write report is made (WriteReportSpoilsEntry). That the slot's data bytes outside the write's span are held as zero is the model's choice (log entry 16): R18 gives a byte without its valid flag no meaningful value. -/
def Obligations.WriteOpensSlot : Prop :=
  ∀ (s : State) (m : IReqMsg) (r : Request) (i : SlotIx) (sealed : Bool), Admitted s m r → r.op = .write →
    ((classOf s r).cls = .combine ∧ fillingOfLine s r.span.line = none ∨ (classOf s r).cls = .sequence) →
    firstEmptySlot s = some i →
    (sealed = true ↔ r.confirm = true ∨ r.span.size = 64 ∨ (classOf s r).cls = .sequence) →
    exec (.requestPresented (some m)) s = .next (drainTest (writeReport r.span.line
      { s with
        acc := if r.confirm then s.acc.taken r.tag .confirmWrite else s.acc.answered (.wackOk r.tag)
        buf :=
          { slots := s.buf.slots.set i (some
              { line := r.span.line, valid := r.span.mask, data := takeLanes r.span.mask r.data
                window := (classOf s r).window, cls := (classOf s r).cls, epoch := s.fence.epoch
                phase :=
                  if sealed then .sealed
                  else .filling (if (classOf s r).hold = 0 then none else some (classOf s r).hold.toNat)
                waiters := if r.confirm then [r.tag] else []
                blockers := (s.rd.reads.filter fun q => q.span.line == r.span.line).map (·.tag)
                lost := false })
            ages := s.buf.ages ++ [i] }
        drain := if sealed then { queue := s.drain.queue ++ [{ slot := i, age := 0 }] } else s.drain
        wires := Wires.taken }))

/-- R12, R23, R25, R29: a COMBINE write to a line with a FILLING slot merges into it. A posted write is answered WACK OK; a confirmed one joins the slot's waiters. A confirmed write, and one that leaves the slot with every byte valid, seals the slot. Then the write report is made (WriteReportSpoilsEntry). -/
def Obligations.WriteMerges : Prop :=
  ∀ (s : State) (m : IReqMsg) (r : Request) (i : SlotIx) (x : Slot) (sealed : Bool), Admitted s m r → r.op = .write →
    (classOf s r).cls = .combine → fillingOfLine s r.span.line = some i → slotAt s i = some x →
    (sealed = true ↔ r.confirm = true ∨ x.valid ||| r.span.mask = BitVec.allOnes 64) →
    exec (.requestPresented (some m)) s = .next (drainTest (writeReport r.span.line
      { s with
        acc := if r.confirm then s.acc.taken r.tag .confirmWrite else s.acc.answered (.wackOk r.tag)
        buf :=
          { s.buf with
            slots := s.buf.slots.set i (some
              { x with
                valid := x.valid ||| r.span.mask
                data := mergeLanes r.span.mask r.data x.data
                phase := if sealed then .sealed else x.phase
                waiters := if r.confirm then x.waiters ++ [r.tag] else x.waiters }) }
        drain := if sealed then { queue := s.drain.queue ++ [{ slot := i, age := 0 }] } else s.drain
        wires := Wires.taken }))

/-- R12, R36: a write that needs a new slot where none is EMPTY waits on the link, and the oldest FILLING slot is sealed; where no slot is FILLING, it waits and seals nothing. -/
def Obligations.WriteWithoutRoomWaits : Prop :=
  ∀ (s : State) (m : IReqMsg) (r : Request), Admitted s m r → r.op = .write →
    ((classOf s r).cls = .combine ∧ fillingOfLine s r.span.line = none ∨ (classOf s r).cls = .sequence) →
    firstEmptySlot s = none →
    (∀ i x, s.buf.ages.find? (slotFilling s) = some i → slotAt s i = some x →
      exec (.requestPresented (some m)) s = .next (drainTest
        { s with
          acc := { s.acc with head := some m }
          buf := { s.buf with slots := s.buf.slots.set i (some { x with phase := .sealed }) }
          drain := { queue := s.drain.queue ++ [{ slot := i, age := 0 }] }
          wires := Wires.idle })) ∧
    ((∀ i ∈ s.buf.ages, slotFilling s i = false) → exec (.requestPresented (some m)) s = .next (drainTest
      { s with acc := { s.acc with head := some m }, wires := Wires.idle }))

/-- R109: a write report acts on the prefetch entry of its line alone: a VALID one becomes EMPTY and least recently used; a PENDING one becomes STALE; a STALE one stays; a REQUESTED one becomes EMPTY and least recently used, its request is withdrawn, and its joined reads fall back to WAIT_GRANT and offer their requests in class DEMAND, in join order. Where no entry holds the line nothing changes. -/
def Obligations.WriteReportSpoilsEntry : Prop :=
  (∀ (s : State) (l : Line), pfOfLine s l = none → writeReport l s = s) ∧
    ∀ (s : State) (l : Line) (e : PfIx) (x : PfEntry), RecencyWhole s → pfOfLine s l = some e → pfAt s e = some x →
      (∀ d, x.state = .valid d → writeReport l s =
        { s with pf := { entries := s.pf.entries.set e none, recency := e :: s.pf.recency.filter (· != e) } }) ∧
      (∀ j, x.state = .pending j → writeReport l s =
        { s with pf := { s.pf with entries := s.pf.entries.set e (some { x with state := .stale j }) } }) ∧
      (∀ j, x.state = .stale j → writeReport l s = s) ∧
      ∀ j, x.state = .requested j → TagsWhole s → (∀ u ∈ j, (readOf s u).isSome = true) → writeReport l s =
        { s with
          rd := { reads := s.rd.reads.map fun q => if q.tag ∈ j then { q with state := .waitGrant } else q }
          pf := { entries := s.pf.entries.set e none, recency := e :: s.pf.recency.filter (· != e) }
          arb :=
            { s.arb with
              demand := s.arb.demand ++ j.map .read
              prefetch := s.arb.prefetch.filter (· != .prefetch e) } }

/-- R79 to R81, R35: a read whose span the youngest slot of its line covers is answered from that slot. A read of a line that slots hold and whose span the youngest does not cover waits on every slot of the line, and the line's FILLING slot is sealed. -/
def Obligations.ReadOfBufferedLine : Prop :=
  ∀ (s : State) (m : IReqMsg) (r : Request) (i : SlotIx) (x : Slot), Admitted s m r → TagsWhole s → r.op = .read →
    ((classOf s r).cls = .combine ∨ (classOf s r).cls = .sequence) → youngestOfLine s r.span.line = some i →
    slotAt s i = some x →
    (covers x.valid r.span.mask = true → exec (.requestPresented (some m)) s = .next (drainTest
      { s with
        acc := s.acc.answered (.rdataOk r.tag (takeLanes r.span.mask x.data))
        buf := { s.buf with slots := slotsWithoutBlocker s.buf.slots r.tag }
        wires := Wires.taken })) ∧
    (covers x.valid r.span.mask = false → ∃ u : State, exec (.requestPresented (some m)) s = .next (drainTest u) ∧
      u =
        { s with
          acc := s.acc.taken r.tag .read
          buf := u.buf, drain := u.drain
          rd :=
            { reads := s.rd.reads ++
                [{ tag := r.tag, access := .read, span := r.span, window := (classOf s r).window
                   cls := (classOf s r).cls
                   prefetch := (classOf s r).prefetch && (classOf s r).cls == .combine
                   state := .waitDeps ((List.finRange 16).filter (holds s r.span.line)) }] }
          wires := Wires.taken } ∧
      (fillingOfLine s r.span.line = none → u.buf = s.buf ∧ u.drain = s.drain) ∧
      ∀ k y, fillingOfLine s r.span.line = some k → slotAt s k = some y →
        u.buf = { s.buf with slots := s.buf.slots.set k (some { y with phase := .sealed }) } ∧
        u.drain = { queue := s.drain.queue ++ [{ slot := k, age := 0 }] })

/-- R79, R83 to R85: a read of a line that no slot holds. With no prefetch entry of the line, or a STALE one, or in class SEQUENCE, it waits for its grant, and its request is offered last in class DEMAND. With a REQUESTED or PENDING entry a COMBINE read joins it, last in its join list. With a VALID entry a COMBINE read is answered from it, the entry becomes most recently used, and the read's trigger is offered (PrefetchTrigger). -/
def Obligations.ReadOfUnbufferedLine : Prop :=
  ∀ (s : State) (m : IReqMsg) (r : Request) (q : ReadRecord), Admitted s m r → TagsWhole s → r.op = .read →
    youngestOfLine s r.span.line = none →
    q = { tag := r.tag, access := .read, span := r.span, window := (classOf s r).window, cls := (classOf s r).cls
          prefetch := (classOf s r).prefetch && (classOf s r).cls == .combine, state := .waitGrant } →
    (((classOf s r).cls = .sequence ∨ (classOf s r).cls = .combine ∧
        (pfOfLine s r.span.line = none ∨
          ∃ e x j, pfOfLine s r.span.line = some e ∧ pfAt s e = some x ∧ x.state = .stale j)) →
      exec (.requestPresented (some m)) s = .next (drainTest
        { s with
          acc := s.acc.taken r.tag .read
          rd := { reads := s.rd.reads ++ [q] }
          arb := { s.arb with demand := s.arb.demand ++ [.read r.tag] }
          wires := Wires.taken })) ∧
    ∀ e x, (classOf s r).cls = .combine → pfOfLine s r.span.line = some e → pfAt s e = some x →
      (∀ j st, (x.state = .requested j ∧ st = .requested (j ++ [r.tag]) ∨
          x.state = .pending j ∧ st = .pending (j ++ [r.tag])) →
        exec (.requestPresented (some m)) s = .next (drainTest
          { s with
            acc := s.acc.taken r.tag .read
            rd := { reads := s.rd.reads ++ [{ q with state := .joined e }] }
            pf := { s.pf with entries := s.pf.entries.set e (some { x with state := st }) }
            wires := Wires.taken })) ∧
      ∀ d, x.state = .valid d →
        exec (.requestPresented (some m)) s = .next (drainTest (readTrigger q
          { s with
            acc := s.acc.answered (.rdataOk r.tag (takeLanes r.span.mask d))
            buf := { s.buf with slots := slotsWithoutBlocker s.buf.slots r.tag }
            pf := { s.pf with recency := s.pf.recency.filter (· != e) ++ [e] }
            wires := Wires.taken }))

/-- R102, R103, R101: the trigger of a read is one for the line after its line, of a COMBINE read with prefetch enabled in a window; any other read offers none. A trigger for line `l + 1` under window `w` acts where `l + 1` lies in the page of `l`, no prefetch entry and no slot holds it, the controller is in RUN, and some entry is EMPTY or VALID. Then the first such entry of the recency order becomes REQUESTED for that line and window, and most recently used, and its request is offered last in class PREFETCH. Otherwise it changes nothing. -/
def Obligations.PrefetchTrigger : Prop :=
  (∀ (r : ReadRecord) (s : State),
    (∀ w, r.cls = .combine → r.prefetch = true → r.window = .win w → readTrigger r s = trigger r.span.line w s) ∧
    ((r.cls ≠ .combine ∨ r.prefetch = false ∨ r.window = .default) → readTrigger r s = s)) ∧
  ∀ (s : State) (l : Line) (w : Fin 8) (allowed : Prop),
    allowed =
      (pageOf (lineAddr (l + 1)) = pageOf (lineAddr l) ∧ (∀ e x, pfAt s e = some x → x.line ≠ l + 1) ∧
        (∀ i x, slotAt s i = some x → x.line ≠ l + 1) ∧ s.quiesce.state = .run) →
    (¬allowed → trigger l w s = s) ∧
    ((∀ e ∈ s.pf.recency, ∃ x, pfAt s e = some x ∧ ∀ d, x.state ≠ .valid d) → trigger l w s = s) ∧
    ∀ before e after, allowed → s.pf.recency = before ++ e :: after →
      (∀ b ∈ before, ∃ x, pfAt s b = some x ∧ ∀ d, x.state ≠ .valid d) →
      (pfAt s e = none ∨ ∃ x d, pfAt s e = some x ∧ x.state = .valid d) →
      trigger l w s =
        { s with
          pf :=
            { entries := s.pf.entries.set e (some { line := l + 1, window := w, state := .requested [] })
              recency := s.pf.recency.filter (· != e) ++ [e] }
          arb := { s.arb with prefetch := s.arb.prefetch ++ [.prefetch e] } }

/-- R14, R67, R68, R70, R71: a fifth FENCE waits on the link. Another FENCE seals every FILLING slot in age order, is recorded last with the epoch, the epoch advances, and the completion test is made. The test ends at an empty list and at an oldest fence whose epoch a non-EMPTY slot has (R66: no other epoch is at or before it). Else the oldest fence completes, with FACK LOSS exactly if the loss flag is set, which is cleared, and the test is made again. So a FENCE that finds no slot non-EMPTY and no fence outstanding completes at once. -/
def Obligations.FenceByBufferAndList : Prop :=
  (∀ (s : State) (m : IReqMsg) (r : Request), Admitted s m r → r.op = .fence →
    (4 ≤ s.fence.list.length → exec (.requestPresented (some m)) s = .next
      (drainTest { s with acc := { s.acc with head := some m }, wires := Wires.idle })) ∧
    (noSlotLive s = true → s.fence.list = [] → exec (.requestPresented (some m)) s = .next (drainTest
      { s with
        acc := s.acc.answered (.fack r.tag s.fence.loss)
        fence := { epoch := s.fence.epoch + 1, list := [], loss := false }
        wires := Wires.taken })) ∧
    (s.fence.list.length < 4 → AgesWhole s → exec (.requestPresented (some m)) s = .next (drainTest (fenceTest
      { afterSealAll s with
        acc := s.acc.taken r.tag .fence
        fence :=
          { s.fence with
            epoch := s.fence.epoch + 1
            list := s.fence.list ++ [{ tag := r.tag, epoch := s.fence.epoch }] }
        wires := Wires.taken })))) ∧
  ∀ s : State, (s.fence.list = [] → fenceTest s = s) ∧
    ∀ f rest, s.fence.list = f :: rest →
      ((∃ i x, slotAt s i = some x ∧ x.epoch = f.epoch) → fenceTest s = s) ∧
      ((∀ i x, slotAt s i = some x → x.epoch ≠ f.epoch) → fenceTest s = fenceTest
        { s with
          acc :=
            { s.acc with
              tags := s.acc.tags.set f.tag .responding
              queue := s.acc.queue ++ [.fack f.tag s.fence.loss] }
          fence := { s.fence with list := rest, loss := false } })

/-- R15, R91 to R94: a DIRECT access is recorded last, held, every FILLING slot is sealed, a write is reported to the prefetch buffer (WriteReportSpoilsEntry), and the release is tested. The test leaves a record held while a slot is non-EMPTY. With none, the record that is held is released, a write with the pieces of its span, and its request is offered last in class DEMAND. That a DIRECT write's record holds zero in the lanes outside its span is the model's choice (log entry 16). -/
def Obligations.DirectAccessReleased : Prop :=
  (∀ (s u : State) (m : IReqMsg) (r : Request) (op : AccessOp) (a : Access), Admitted s m r → TagsWhole s →
    AgesWhole s → (classOf s r).cls = .direct →
    (r.op = .read ∧ op = .read ∧ a = .read ∨
      r.op = .write ∧ op = .write ∧ a = .write (takeLanes r.span.mask r.data)) →
    u =
      { afterSealAll s with
        acc := s.acc.taken r.tag (.direct op)
        rd :=
          { reads := s.rd.reads ++
              [{ tag := r.tag, access := a, span := r.span, window := (classOf s r).window, cls := .direct
                 prefetch := false, state := .directWait .held false }] }
        wires := Wires.taken } →
    exec (.requestPresented (some m)) s = .next
      (drainTest (directTest (if r.op = .write then writeReport r.span.line u else u)))) ∧
  ∀ s : State,
    ((noSlotLive s = false ∨ ∀ r ∈ s.rd.reads, ∀ lost, r.state ≠ .directWait .held lost) → directTest s = s) ∧
    ∀ (before after : List ReadRecord) (r : ReadRecord) (lost : Bool) (ps : List Piece), noSlotLive s = true →
      s.rd.reads = before ++ r :: after → (∀ q ∈ before, ∀ l, q.state ≠ .directWait .held l) →
      r.state = .directWait .held lost →
      (r.access = .read ∧ ps = [] ∨ (∃ d, r.access = .write d) ∧ ps = formPieces r.span.mask) →
      directTest s =
        { s with
          rd := { reads := replaceRead { r with state := .directWait (.released ps) false } s.rd.reads }
          arb := { s.arb with demand := s.arb.demand ++ [.direct] } }

/-! ### Sealing and draining -/

/-- R26, R27, R28, R119, R123, R124, R130: a timer expires in its last tick, and its expiry before that, or where no such timer runs, changes nothing (log entry 6, deduced). A hold timer's expiry seals the FILLING slot, which then stands last in the drain queue with age 0. A backoff timer's expiry offers the entry's re-issue, last in the class of its origin. A reclaim timer's expiry frees the LATE entry. What a response timer's expiry brings are the statements of the give-ups. -/
def Obligations.TimersExpireWhenDue : Prop :=
  (∀ (s : State) (i : SlotIx), s.inReset = false →
    (∀ x n, slotAt s i = some x → x.phase = .filling (some n) → n ≤ 1 →
      exec (.holdTimerExpiry i) s = .next (drainTest
        { s with
          buf := { s.buf with slots := s.buf.slots.set i (some { x with phase := .sealed }) }
          drain := { queue := s.drain.queue ++ [{ slot := i, age := 0 }] }
          wires := Wires.idle })) ∧
    ((∀ x n, slotAt s i = some x → x.phase = .filling (some n) → 1 < n) →
      exec (.holdTimerExpiry i) s = .next (s.setWires Wires.idle))) ∧
  ∀ (s : State) (m : MemTag), s.inReset = false →
    (∀ req a n, entryAt s m = .backoffWaiting req a n → n ≤ 1 → (∀ e, req.origin ≠ .prefetch e) →
      exec (.backoffTimerExpiry m) s = .next
        { s with
          trk := { s.trk with entries := s.trk.entries.set m (.backoffOffered req a) }
          arb :=
            match req.origin with
            | .drain _ _ => { s.arb with drain := s.arb.drain ++ [.reissue m] }
            | _ => { s.arb with demand := s.arb.demand ++ [.reissue m] }
          wires := Wires.idle }) ∧
    (∀ n, entryAt s m = .late n → n ≤ 1 → exec (.reclaimTimerExpiry m) s = .next
      { s with trk := { s.trk with entries := s.trk.entries.set m .free }, wires := Wires.idle }) ∧
    ((∀ req a n, entryAt s m = .issued req a n → 1 < n) →
      exec (.responseTimerExpiry m) s = .next (s.setWires Wires.idle)) ∧
    ((∀ req a n, entryAt s m = .backoffWaiting req a n → 1 < n) →
      exec (.backoffTimerExpiry m) s = .next (s.setWires Wires.idle)) ∧
    ((∀ n, entryAt s m = .late n → 1 < n) →
      exec (.reclaimTimerExpiry m) s = .next (s.setWires Wires.idle))

/-- R51, R52, R55: the drain engine's test changes nothing while a DRAINING slot of the drain queue has a WAITING piece, and where no SEALED slot of the queue is eligible. Else it begins the eligible slot that stands first in queue order, passing over the others: the slot becomes DRAINING with the pieces of its valid mask, and its first piece, the drain head, is offered last in class DRAIN. -/
def Obligations.DrainTestBeginsOneSlot : Prop :=
  ∀ (s : State) (waits : SlotIx → Prop),
    (∀ i, waits i ↔ ∃ x ps p, slotAt s i = some x ∧ x.phase = .draining ps ∧ p ∈ ps ∧ p.outcome = .waiting) →
    ((∃ e ∈ s.drain.queue, waits e.slot) → drainTest s = s) ∧
    ((∀ e ∈ s.drain.queue, eligible s e.slot = false) → drainTest s = s) ∧
    ∀ (before after : List DrainEntry) (e : DrainEntry) (x : Slot), (∀ f ∈ s.drain.queue, ¬waits f.slot) →
      s.drain.queue = before ++ e :: after → (∀ b ∈ before, eligible s b.slot = false) →
      eligible s e.slot = true → slotAt s e.slot = some x →
      drainTest s =
        { s with
          buf :=
            { s.buf with
              slots := s.buf.slots.set e.slot (some { x with phase := .draining (formPieces x.valid) }) }
          arb := { s.arb with drain := s.arb.drain ++ [.drainHead] } }

/-- R47 to R50: a SEALED slot is eligible exactly when the fence hold, the same-line order, the SEQUENCE order and the blocker list are met. -/
def Obligations.EligibilityConditions : Prop :=
  ∀ (s : State) (i : SlotIx) (x : Slot), slotAt s i = some x →
    (eligible s i = true ↔
      x.phase = .sealed ∧
      (∀ f rest, s.fence.list = f :: rest → (x.epoch - f.epoch).toNat = 0) ∧
      (∀ j ∈ s.buf.ages.takeWhile (· != i), holds s x.line j = false) ∧
      (x.cls = .sequence → ∀ e ∈ s.drain.queue.takeWhile (·.slot != i), slotSequence s e.slot = false) ∧
      x.blockers = [])

/-- R53, R54: the pieces of a valid mask cover exactly its bytes, no byte twice, in ascending granule order, each WAITING. A burst stands at a multiple of its length, and it is the largest of 8, 4, 2 and 1 granules that fits there: the granules of every longer burst that could stand there have a byte that is not valid. A masked piece has a flag set and a flag clear. The bytes of a piece are those of its granules for a burst, and the flagged ones of its granule for a masked piece. -/
def Obligations.PiecesCoverMask : Prop :=
  (∀ m : ByteMask, (formPieces m).foldl (fun a p => a ||| p.mask) 0 = m ∧
    (formPieces m).Pairwise (fun p q => p.mask &&& q.mask = 0 ∧ p.start < q.start) ∧
    ∀ p ∈ formPieces m, p.outcome = .waiting ∧
      match p.shape with
      | .burst n => p.start.val % n.granules = 0 ∧ p.start.val + n.granules ≤ 8 ∧
          ∀ longer : BurstLen, n.granules < longer.granules → p.start.val % longer.granules = 0 →
            ∃ k, k < 8 * longer.granules ∧ m.getLsbD (8 * p.start.val + k) = false
      | .masked flags => flags ≠ 0 ∧ flags ≠ BitVec.allOnes 8) ∧
  (BurstLen.one.granules = 1 ∧ BurstLen.two.granules = 2 ∧ BurstLen.four.granules = 4 ∧
    BurstLen.eight.granules = 8) ∧
  ∀ (p : Piece) (k : Nat), k < 64 → (p.mask.getLsbD k = true ↔ 8 * p.start.val ≤ k ∧
    match p.shape with
    | .burst n => k < 8 * (p.start.val + n.granules)
    | .masked flags => flags.getLsbD (k - 8 * p.start.val) = true)

/-- R46, R26, R119, R123, R130: at a tick every age count of the drain queue rises by one, every hold timer, response timer, backoff timer and reclaim timer with more than one tick left falls by one, and every one in its last tick expires. The expiries are those of the expiry commands; that they follow the counts, slots before entries and each by index, is log entry 5, the model's choice. -/
def Obligations.TickCounts : Prop :=
  (∀ s : State, s.inReset = false → ∃ (t : State) (slots : List SlotIx) (entries : List MemTag),
    exec .ageCountTick s = .next
      (entries.foldl (fun u m => entryExpires m u) (slots.foldl (fun u i => holdExpires i u) t)) ∧
    slots.Pairwise (· < ·) ∧
    (∀ i, i ∈ slots ↔ ∃ x n, slotAt s i = some x ∧ x.phase = .filling (some n) ∧ n ≤ 1) ∧
    entries.Pairwise (· < ·) ∧
    (∀ m, m ∈ entries ↔ ∃ n, n ≤ 1 ∧
      ((∃ req a, entryAt s m = .issued req a n) ∨ (∃ req a, entryAt s m = .backoffWaiting req a n) ∨
        entryAt s m = .late n)) ∧
    t = { s with buf := { s.buf with slots := t.buf.slots }, drain := t.drain,
                 trk := { s.trk with entries := t.trk.entries }, wires := Wires.idle } ∧
    t.drain.queue = s.drain.queue.map (fun e => { e with age := e.age + 1 }) ∧
    (∀ (i : SlotIx) (x : Slot) (n : Nat), slotAt s i = some x → x.phase = .filling (some n) → 1 < n →
      slotAt t i = some { x with phase := .filling (some (n - 1)) }) ∧
    (∀ i : SlotIx, (∀ x n, slotAt s i = some x → x.phase = .filling (some n) → n ≤ 1) → slotAt t i = slotAt s i) ∧
    ∀ m : MemTag, entryAt t m =
      match entryAt s m with
      | .issued req a n => .issued req a (if 1 < n then n - 1 else n)
      | .backoffWaiting req a n => .backoffWaiting req a (if 1 < n then n - 1 else n)
      | .late n => .late (if 1 < n then n - 1 else n)
      | .free => .free
      | .backoffOffered req a => .backoffOffered req a) ∧
  (∀ (s : State) (i : SlotIx), s.inReset = false →
    exec (.holdTimerExpiry i) s = .next (holdExpires i (s.setWires Wires.idle))) ∧
  ∀ (s : State) (m : MemTag) (c : Instr), s.inReset = false →
    ((∃ req a n, entryAt s m = .issued req a n) ∧ c = .responseTimerExpiry m ∨
      (∃ req a n, entryAt s m = .backoffWaiting req a n) ∧ c = .backoffTimerExpiry m ∨
      (∃ n, entryAt s m = .late n) ∧ c = .reclaimTimerExpiry m) →
    exec c s = .next (entryExpires m (s.setWires Wires.idle))

/-! ### The memory link -/

/-- R141, R180, with log entries 4 and 13: the level of MREQ_READY is what the controller last drove, while the part is held in reset too (log entry 13), and a change of it changes nothing else: a grant is an event of its own, never inside another event, also where a rise finds an eligible request (log entry 4, deduced). With MREQ_READY low, or with no request eligible, a grant event makes no grant. -/
def Obligations.ReadyGatesGrants : Prop :=
  (∀ s : State,
    exec .mreqReadyRise s = .next { s with arb := { s.arb with mreqReady := true }, wires := Wires.idle } ∧
    exec .mreqReadyFall s = .next { s with arb := { s.arb with mreqReady := false }, wires := Wires.idle }) ∧
    ∀ s : State, s.inReset = false → (s.arb.mreqReady = false ∨ winner s = none) →
      exec .grant s = .next (s.setWires Wires.idle)

/-- R146: drain is promoted exactly when one of the six conditions holds. -/
def Obligations.PromotionConditions : Prop :=
  ∀ s : State, promoted s = true ↔
    s.cfg.highWatermark.toNat ≤ liveCount s ∨ s.fence.list ≠ [] ∨
    (∃ r ∈ s.rd.reads, ∃ d, r.state = .waitDeps d) ∨ (∃ r ∈ s.rd.reads, ∃ l, r.state = .directWait .held l) ∨
    s.quiesce.state ≠ .run ∨ ∃ n, promotionInput s = some n ∧ s.cfg.promotionTime.toNat ≤ n

/-- R144, R145: a first issue of class DEMAND or DRAIN is eligible while at least 1 tracker entry is FREE, one of class PREFETCH while at least 5 are, a re-issue always; the FREE count is the number of entries FREE at the grant event. The winner is the earliest-ready eligible request of the first class that has one, DEMAND before DRAIN, or DRAIN before DEMAND while drain is promoted, and PREFETCH last. -/
def Obligations.WinnerFollowsGrantOrder : Prop :=
  ((∀ (n : Nat) (c : RequestClass) (r : OfferedRequest), grantable n c r = true ↔
      (∃ m, r = .reissue m) ∨ (c = .demand ∨ c = .drain) ∧ 1 ≤ n ∨ c = .prefetch ∧ 5 ≤ n) ∧
    ∀ s : State, freeCount s = ((List.finRange 16).filter fun m => entryAt s m == .free).length) ∧
  ∀ (s : State) (a b : RequestClass),
    (promoted s = false ∧ a = .demand ∧ b = .drain ∨ promoted s = true ∧ a = .drain ∧ b = .demand) →
    (∀ r, (readyOrder s a).find? (grantable (freeCount s) a) = some r → winner s = some (a, r)) ∧
    (∀ r, (readyOrder s a).find? (grantable (freeCount s) a) = none →
      (readyOrder s b).find? (grantable (freeCount s) b) = some r → winner s = some (b, r)) ∧
    (∀ r, (readyOrder s a).find? (grantable (freeCount s) a) = none →
      (readyOrder s b).find? (grantable (freeCount s) b) = none →
      s.arb.prefetch.find? (grantable (freeCount s) .prefetch) = some r → winner s = some (.prefetch, r)) ∧
    ((readyOrder s a).find? (grantable (freeCount s) a) = none →
      (readyOrder s b).find? (grantable (freeCount s) b) = none →
      s.arb.prefetch.find? (grantable (freeCount s) .prefetch) = none → winner s = none)

/-- R148, R117, R86, R93, R104: the grant of a read sends its MRD under the lowest-numbered FREE tag, with attempts 0 and the response timer loaded, and its request leaves the ready order. A demand read's record becomes ISSUED, and its trigger is offered (PrefetchTrigger). A DIRECT read's record stays as it is. A REQUESTED prefetch entry asks for its whole line and becomes PENDING, keeping its join list. -/
def Obligations.GrantSendsReads : Prop :=
  ∀ (s : State) (m : MemTag), s.inReset = false → s.arb.mreqReady = true → firstFree s = some m →
    (∀ t r, winner s = some (.demand, .read t) → readOf s t = some r →
      exec .grant s = .next (readTrigger r
        { afterSend m { origin := .demand t, op := .mrd r.span } s with
          rd := { reads := replaceRead { r with state := .issued } s.rd.reads }
          arb := { s.arb with demand := s.arb.demand.filter (· != .read t) } })) ∧
    (∀ r, winner s = some (.demand, .direct) → s.rd.reads.find? (fun q => q.released.isSome) = some r →
      r.access = .read →
      exec .grant s = .next
        { afterSend m { origin := .direct r.tag 0, op := .mrd r.span } s with
          arb := { s.arb with demand := s.arb.demand.filter (· != .direct) } }) ∧
    ∀ e x j, winner s = some (.prefetch, .prefetch e) → pfAt s e = some x → x.state = .requested j →
      exec .grant s = .next
        { afterSend m { origin := .prefetch e, op := .mrd { addr := lineAddr x.line, size := 64 } } s with
          pf := { s.pf with entries := s.pf.entries.set e (some { x with state := .pending j }) }
          arb := { s.arb with prefetch := s.arb.prefetch.filter (· != .prefetch e) } }

/-- R148, R117, R56, R52, R94: the grant of the drain head, the first WAITING piece of the issuing slot, or of the DIRECT head, the first WAITING piece of the released DIRECT write, sends its MWR under the lowest-numbered FREE tag, with attempts 0 and the response timer loaded, and the piece becomes ISSUED. While a further piece is WAITING, the next one is offered in its place, last in its class. After the last one of a slot the drain engine tests for another slot. -/
def Obligations.GrantSendsPieces : Prop :=
  ∀ (s : State) (m : MemTag) (k : Nat) (p : Piece) (ps left : List Piece),
    s.inReset = false → s.arb.mreqReady = true → firstFree s = some m →
    firstWaiting ps = some (k, p) → left = setOutcome ps k .issued →
    (∀ i x u, winner s = some (.drain, .drainHead) → issuing s = some i → slotAt s i = some x →
      x.phase = .draining ps →
      u =
        { afterSend m { origin := .drain i (Fin.ofNat 8 k), op := pieceWrite x.line x.data p } s with
          buf := { s.buf with slots := s.buf.slots.set i (some { x with phase := .draining left }) }
          arb := { s.arb with drain := s.arb.drain.filter (· != .drainHead) } } →
      ((∀ q ∈ left, q.outcome ≠ .waiting) → exec .grant s = .next (drainTest u)) ∧
      ((∃ q ∈ left, q.outcome = .waiting) → exec .grant s = .next
        { u with arb := { u.arb with drain := u.arb.drain ++ [.drainHead] } })) ∧
    ∀ r d lost u, winner s = some (.demand, .direct) → s.rd.reads.find? (fun q => q.released.isSome) = some r →
      r.state = .directWait (.released ps) lost → r.access = .write d →
      u =
        { afterSend m { origin := .direct r.tag (Fin.ofNat 8 k), op := pieceWrite r.span.line d p } s with
          rd := { reads := replaceRead { r with state := .directWait (.released left) lost } s.rd.reads }
          arb := { s.arb with demand := s.arb.demand.filter (· != .direct) } } →
      ((∀ q ∈ left, q.outcome ≠ .waiting) → exec .grant s = .next u) ∧
      ((∃ q ∈ left, q.outcome = .waiting) → exec .grant s = .next
        { u with arb := { u.arb with demand := u.arb.demand ++ [.direct] } })

/-- R124, R185: the grant of a re-issue sends the same request again under the same tag, its attempts count kept and the response timer loaded anew. -/
def Obligations.GrantReissuesUnchanged : Prop :=
  ∀ (s : State) (c : RequestClass) (m : MemTag) (req : MemRequest) (a : Nat), s.inReset = false →
    s.arb.mreqReady = true → winner s = some (c, .reissue m) → entryAt s m = .backoffOffered req a →
    ∃ t : State, exec .grant s = .next t ∧
      t = { s with trk := { s.trk with entries := s.trk.entries.set m (.issued req a s.cfg.responseTimeout.toNat) },
                   arb := t.arb, wires := { Wires.idle with mreq := some (memHeader m req.op, req.op.lanes) } } ∧
      readyOrder t c = (readyOrder s c).filter (· != .reissue m) ∧ t.arb.mreqReady = true ∧
      ∀ d, d ≠ c → readyOrder t d = readyOrder s d

/-- R121, R87, R89: a DONE for a demand read's entry answers it RDATA OK with memory's bytes of its span; its tag leaves every blocker list, its record is removed and the entry becomes FREE. Then the QUIET test and a waiting request follow (EventEnds). -/
def Obligations.DoneAnswersDemandRead : Prop :=
  ∀ (s : State) (m : MemTag) (d : Lanes) (t : Tag) (op : MemOp) (a n : Nat) (r : ReadRecord), s.inReset = false →
    entryAt s m = .issued { origin := .demand t, op := op } a n → readOf s t = some r →
    exec (.done m d) s = .next (finishEvent s (quietTest
      { s with
        acc :=
          { s.acc with
            tags := s.acc.tags.set r.tag .responding
            queue := s.acc.queue ++ [.rdataOk r.tag (takeLanes r.span.mask d)] }
        buf := { s.buf with slots := slotsWithoutBlocker s.buf.slots r.tag }
        rd := { reads := s.rd.reads.filter fun q => q.tag != r.tag }
        trk := { s.trk with entries := s.trk.entries.set m .free }
        wires := Wires.idle }))

/-- R120, R129, R133: a response of any defined kind for a LATE entry is absorbed: the entry becomes FREE, the late-response count rises by one unless it stands at 255, LATE (bit 2) is set, and nothing else changes. -/
def Obligations.LateResponseAbsorbed : Prop :=
  ∀ (s : State) (m : MemTag) (d : Lanes) (n : Nat) (c : Instr), s.inReset = false → entryAt s m = .late n →
    (c = .done m d ∨ c = .defer m ∨ c = .fault m) →
    exec c s = .next
      { s with
        trk :=
          { s.trk with
            entries := s.trk.entries.set m .free
            lateCount := if s.trk.lateCount = 255 then 255 else s.trk.lateCount + 1 }
        irq := { s.irq with status := s.irq.status ||| 4 }
        wires := Wires.idle }

/-- R120, R131, R132, R188: a response of any defined kind for a FREE or BACKOFF entry is stray, and one of undefined kind is not taken for any entry: it is dropped, recorded where the capture holds nothing, PROTO (bit 3) is set, and nothing else changes. -/
def Obligations.StrayResponseDropped : Prop :=
  ∀ (s : State) (m : MemTag) (d : Lanes) (c : Instr) (k : MemoryError), s.inReset = false →
    ((entryAt s m = .free ∨ (∃ req a n, entryAt s m = .backoffWaiting req a n) ∨
        ∃ req a, entryAt s m = .backoffOffered req a) ∧
      (c = .done m d ∨ c = .defer m ∨ c = .fault m) ∧ k = .stray ∨ c = .badResp m ∧ k = .badResp) →
    exec c s = .next
      { s with
        trk := { s.trk with capture := some (s.trk.capture.getD { kind := k, tag := m }) }
        irq := { s.irq with status := s.irq.status ||| 8 }
        wires := Wires.idle }

/-- R122, R123: a DEFER for an ISSUED entry of another origin than PREFETCH whose attempts count, raised by one, is not above the retry limit: the entry goes to BACKOFF for the base times 2 to the power min(attempts - 1, 5), and nothing else changes. -/
def Obligations.DeferBacksOff : Prop :=
  ∀ (s : State) (m : MemTag) (req : MemRequest) (a n : Nat), s.inReset = false →
    entryAt s m = .issued req a n → (∀ e, req.origin ≠ .prefetch e) → a + 1 ≤ s.cfg.retryLimit.toNat →
    exec (.defer m) s = .next
      { s with
        trk :=
          { s.trk with
            entries := s.trk.entries.set m
              (.backoffWaiting req (a + 1) (s.cfg.backoffBase.toNat * 2 ^ min a 5)) }
        wires := Wires.idle }

/-- R125 to R127, R88: a FAULT for a demand read's entry, its DEFER above the retry limit, and its response timer's expiry in its last tick give the read up: RDATA ERROR MEMORY, its tag leaves every blocker list, its record is removed; the entry becomes FREE, or LATE for 16 times the response timeout at the expiry. Then the QUIET test and a waiting request follow (EventEnds). -/
def Obligations.GiveUpAnswersDemandRead : Prop :=
  ∀ (s : State) (m : MemTag) (t : Tag) (op : MemOp) (a n k : Nat) (r : ReadRecord) (c : Instr) (y : TrackerEntry)
    (cause : LossCause), s.inReset = false → entryAt s m = .issued { origin := .demand t, op := op } a n →
    readOf s t = some r → GivesUp s m a n c y cause k →
    exec c s = .next (finishEvent s (quietTest (afterAnswer r (.rdataError r.tag .memory)
      { s with trk := { s.trk with entries := s.trk.entries.set m y }, wires := Wires.idle })))

/-- R93, R95: DONE for a DIRECT read's entry answers it RDATA OK with memory's bytes of its span, a give-up answers it ERROR MEMORY. DONE for a piece of a DIRECT write makes the piece DONE, a give-up makes it LOST and sets the record's lost flag; the last one answers the write, WACK OK or, with the lost flag set, WACK ERROR MEMORY. An answer removes the record, and then the QUIET test and a waiting request follow (EventEnds). The tracker's entry becomes FREE, or LATE at an expiry. No loss record is made and the fence unit's loss flag stays. -/
def Obligations.DirectAccessAnswered : Prop :=
  ∀ (s u : State) (m : MemTag) (t : Tag) (k : Fin 8) (op : MemOp) (a n : Nat) (r : ReadRecord) (c : Instr)
    (y : TrackerEntry) (d : Lanes) (failed : Bool), s.inReset = false →
    entryAt s m = .issued { origin := .direct t k, op := op } a n → readOf s t = some r →
    (failed = false ∧ c = .done m d ∧ y = .free ∨ failed = true ∧ ∃ cause j, GivesUp s m a n c y cause j) →
    u = { s with trk := { s.trk with entries := s.trk.entries.set m y }, wires := Wires.idle } →
    (r.access = .read → exec c s = .next (finishEvent s (quietTest (afterAnswer r
      (if failed then .rdataError r.tag .memory else .rdataOk r.tag (takeLanes r.span.mask d)) u)))) ∧
    ∀ data ps left lost lost', r.access = .write data → r.state = .directWait (.released ps) lost →
      left = setOutcome ps k (if failed then .lost else .done) → lost' = (lost || failed) →
      ((∃ p ∈ left, p.outcome ≠ .done ∧ p.outcome ≠ .lost) → exec c s = .next (drainTest
        { u with
          rd := { reads := replaceRead { r with state := .directWait (.released left) lost' } s.rd.reads } })) ∧
      ((∀ p ∈ left, p.outcome = .done ∨ p.outcome = .lost) → exec c s = .next (finishEvent s (quietTest
        (afterAnswer r (if lost' then .wackError r.tag .memory else .wackOk r.tag) u))))

/-- R59, R60, R167, R127: a FAULT for the entry of a drain piece, its DEFER above the retry limit, and its response timer's expiry in its last tick give the piece up: it becomes LOST, the slot's lost flag and the fence unit's loss flag are set, and one loss record is added, with the piece's bytes, the slot's line, window, class and epoch, the cause and the attempts count, and LOG (bit 0) set; or with 8 records held it is counted, up to 255, and LOG_OVF (bit 1) set. The entry becomes FREE, or LATE at the expiry. Where every piece of the slot is then DONE or LOST, the slot completes (R40, afterCompletion), and then the QUIET test and a waiting request follow (EventEnds). -/
def Obligations.LostPieceRecorded : Prop :=
  ∀ (s u : State) (m : MemTag) (i : SlotIx) (k : Fin 8) (op : MemOp) (a n j : Nat) (x x' : Slot)
    (ps left : List Piece) (p : Piece) (c : Instr) (y : TrackerEntry) (cause : LossCause), s.inReset = false →
    entryAt s m = .issued { origin := .drain i k, op := op } a n → slotAt s i = some x → x.phase = .draining ps →
    ps[k.val]? = some p → GivesUp s m a n c y cause j → left = setOutcome ps k .lost →
    x' = { x with phase := .draining left, lost := true } →
    u =
      { s with
        buf := { s.buf with slots := s.buf.slots.set i (some x') }
        fence := { s.fence with loss := true }
        trk := { s.trk with entries := s.trk.entries.set m y }
        flog :=
          if s.flog.records.length < 8 then
            { s.flog with
              records := s.flog.records ++
                [{ cause := cause, line := x.line, mask := p.mask, window := x.window, cls := x.cls
                   epoch := x.epoch, attempts := j }] }
          else { s.flog with overflow := if s.flog.overflow = 255 then 255 else s.flog.overflow + 1 }
        irq := { s.irq with status := s.irq.status ||| (if s.flog.records.length < 8 then 1 else 2) }
        wires := Wires.idle } →
    ((∃ q ∈ left, q.outcome ≠ .done ∧ q.outcome ≠ .lost) → exec c s = .next (drainTest u)) ∧
    ((∀ q ∈ left, q.outcome = .done ∨ q.outcome = .lost) →
      exec c s = .next (finishEvent s (quietTest (afterCompletion i x' u))))

/-- R58, R121, R40, R41: a DONE for the entry of a drain piece makes the piece DONE and frees the entry. While a piece of the slot is neither DONE nor LOST, nothing else changes but what the drain engine's test does. With the last one the slot completes, in this order: its waiters are answered in list order, WACK OK or, with the slot's lost flag set, WACK ERROR MEMORY; it becomes EMPTY and leaves the age list and the drain queue; the reads hear of it (ReadsReleased); the fences are tested (FenceByBufferAndList), and then a held DIRECT access (DirectAccessReleased). Then the QUIET test and a waiting request follow (EventEnds). -/
def Obligations.DonePieceResolved : Prop :=
  (∀ (s u : State) (m : MemTag) (d : Lanes) (i : SlotIx) (k : Fin 8) (op : MemOp) (a n : Nat) (x x' : Slot)
    (ps left : List Piece), s.inReset = false → entryAt s m = .issued { origin := .drain i k, op := op } a n →
    slotAt s i = some x → x.phase = .draining ps → k.val < ps.length → left = setOutcome ps k .done →
    x' = { x with phase := .draining left } →
    u =
      { s with
        buf := { s.buf with slots := s.buf.slots.set i (some x') }
        trk := { s.trk with entries := s.trk.entries.set m .free }
        wires := Wires.idle } →
    ((∃ q ∈ left, q.outcome ≠ .done ∧ q.outcome ≠ .lost) → exec (.done m d) s = .next (drainTest u)) ∧
    ((∀ q ∈ left, q.outcome = .done ∨ q.outcome = .lost) →
      exec (.done m d) s = .next (finishEvent s (quietTest (afterCompletion i x' u))))) ∧
  ∀ (i : SlotIx) (x : Slot) (s : State),
    afterCompletion i x s = directTest (fenceTest (releaseReads i
      { s with
        acc :=
          { s.acc with
            tags := x.waiters.foldl (fun v (t : Tag) => v.set t .responding) s.acc.tags
            queue := s.acc.queue ++ x.waiters.map fun t => if x.lost then .wackError t .memory else .wackOk t }
        buf := { slots := s.buf.slots.set i none, ages := s.buf.ages.filter (· != i) }
        drain := { queue := s.drain.queue.filter fun e => e.slot != i } }))

/-- R82: when slot `i` has emptied, each pending record, in acceptance order, removes it from its dependencies. A record left with none goes on as a read with no slot of its line (ReadOfUnbufferedLine), with the prefetch buffer as it then stands: with no entry of its line, or a STALE one, or in class SEQUENCE, it stands in WAIT_GRANT and its request is offered last in class DEMAND; it joins a REQUESTED or PENDING entry; from a VALID entry it is answered, the entry becomes most recently used, and its trigger is offered. -/
def Obligations.ReadsReleased : Prop :=
  (∀ (i : SlotIx) (s : State),
    releaseReads i s = (s.rd.reads.map (·.tag)).foldl (fun u t => releaseRead i t u) s) ∧
  ∀ (i : SlotIx) (s : State) (t : Tag) (r : ReadRecord), readOf s t = some r →
    ((∀ deps, r.state = .waitDeps deps → i ∉ deps) → releaseRead i t s = s) ∧
    ∀ deps left, r.state = .waitDeps deps → i ∈ deps → left = deps.filter (· != i) →
      (left ≠ [] → releaseRead i t s =
        { s with rd := { reads := replaceRead { r with state := .waitDeps left } s.rd.reads } }) ∧
      (left = [] →
        ((r.cls ≠ .combine ∨ pfOfLine s r.span.line = none ∨
            ∃ e x j, pfOfLine s r.span.line = some e ∧ pfAt s e = some x ∧ x.state = .stale j) →
          releaseRead i t s =
            { s with
              rd := { reads := replaceRead { r with state := .waitGrant } s.rd.reads }
              arb := { s.arb with demand := s.arb.demand ++ [.read t] } }) ∧
        ∀ e x, r.cls = .combine → pfOfLine s r.span.line = some e → pfAt s e = some x →
          (∀ j st, (x.state = .requested j ∧ st = .requested (j ++ [t]) ∨
              x.state = .pending j ∧ st = .pending (j ++ [t])) →
            releaseRead i t s =
              { s with
                rd := { reads := replaceRead { r with state := .joined e } s.rd.reads }
                pf := { s.pf with entries := s.pf.entries.set e (some { x with state := st }) } }) ∧
          ∀ d, x.state = .valid d → releaseRead i t s = readTrigger r
            { afterAnswer r (.rdataOk t (takeLanes r.span.mask d)) s with
              pf := { s.pf with recency := s.pf.recency.filter (· != e) ++ [e] } })

/-- R106 to R108, R101, R84: what the outcome of a prefetch does. DONE for a PENDING entry makes it VALID with the 64 bytes returned, and most recently used; its joined reads are answered in join order, each RDATA OK with the bytes of its span, and with a joined read one trigger for the next line is offered (PrefetchTrigger). DONE for a STALE entry answers the joined reads and makes the entry EMPTY and least recently used. A FAULT, a DEFER at any attempts count and the response timer's expiry in its last tick make a PENDING or STALE entry EMPTY and least recently used, and its joined reads fall back in join order. The tracker's entry becomes FREE, or LATE at the expiry. Then the QUIET test and a waiting request follow (EventEnds). -/
def Obligations.PrefetchOutcomes : Prop :=
  (∀ (s u : State) (m : MemTag) (d : Lanes) (e : PfIx) (op : MemOp) (a n : Nat) (x : PfEntry) (c : Instr)
    (y : TrackerEntry), s.inReset = false →
    entryAt s m = .issued { origin := .prefetch e, op := op } a n → pfAt s e = some x →
    (c = .done m d ∧ y = .free ∨ c = .fault m ∧ y = .free ∨ c = .defer m ∧ y = .free ∨
      c = .responseTimerExpiry m ∧ n ≤ 1 ∧ y = .late (16 * s.cfg.responseTimeout.toNat)) →
    u = { s with trk := { s.trk with entries := s.trk.entries.set m y }, wires := Wires.idle } →
    (∀ j v, c = .done m d → x.state = .pending j →
      v = j.foldl (answerJoined d)
        { u with
          pf :=
            { entries := s.pf.entries.set e (some { x with state := .valid d })
              recency := s.pf.recency.filter (· != e) ++ [e] } } →
      exec c s = .next (finishEvent s (quietTest (if j = [] then v else trigger x.line x.window v)))) ∧
    (RecencyWhole s → ∀ j gone, gone = PrefetchBuffer.mk (s.pf.entries.set e none)
        (e :: s.pf.recency.filter (· != e)) →
      (c = .done m d → x.state = .stale j →
        exec c s = .next (finishEvent s (quietTest { j.foldl (answerJoined d) u with pf := gone }))) ∧
      (c ≠ .done m d → (x.state = .pending j ∨ x.state = .stale j) → TagsWhole s →
        exec c s = .next (finishEvent s (quietTest (afterFallBack j { u with pf := gone })))))) ∧
  ∀ (d : Lanes) (s : State) (t : Tag),
    (readOf s t = none → answerJoined d s t = s) ∧
    ∀ r, readOf s t = some r → answerJoined d s t = afterAnswer r (.rdataOk t (takeLanes r.span.mask d)) s

/-! ### Quiesce and the drain line -/

/-- R159, R161, R162, R153: a COMMIT while one is pending is REFUSED; one that finds an invalid staged table is INVALID; neither changes more. A valid one in QUIESCING is PENDING. In QUIET, and in RUN with the QUIET condition met, the staged table becomes the active one, the prefetch buffer is invalidated (R112, afterInvalidation), the result is DONE, COMMIT (bit 4) is set, and the controller stands where it stood. In RUN without it, every FILLING slot is sealed, the prefetch buffer is invalidated, and the controller is QUIESCING with the result PENDING. In afterInvalidation the reads of two REQUESTED entries join class DEMAND by entry index, which is the model's choice (log entry 9). -/
def Obligations.CommitActsByState : Prop :=
  ∀ (s : State) (f : Bool), s.inReset = false → Lands s f 0x10 →
    (s.quiesce.commitPending = true → exec (.commit f) s = .next
      { s with port := { s.port.acked 0x10 with result := .refused }, wires := Wires.answer true }) ∧
    (s.quiesce.commitPending = false → ¬StagedValid s → exec (.commit f) s = .next
      { s with port := { s.port.acked 0x10 with result := .invalid }, wires := Wires.answer true }) ∧
    (s.quiesce.commitPending = false → StagedValid s → s.quiesce.state = .quiescing → exec (.commit f) s = .next
      { s with
        quiesce := { s.quiesce with commitPending := true }
        port := { s.port.acked 0x10 with result := .pending }
        wires := Wires.answer true }) ∧
    (StagedValid s → QuiesceLaw s.quiesce → TagsWhole s →
      (s.quiesce.state = .quiet ∨ s.quiesce.state = .run ∧ quietCondition s = true) →
      exec (.commit f) s = .next
        { afterInvalidation s with
          win := { s.win with active := s.win.staged }
          irq := { s.irq with status := s.irq.status ||| 16 }
          port := { s.port.acked 0x10 with result := .done }
          wires := Wires.answer true }) ∧
    (StagedValid s → QuiesceLaw s.quiesce → TagsWhole s → AgesWhole s → s.quiesce.state = .run →
      quietCondition s = false →
      exec (.commit f) s = .next (drainTest
        { afterInvalidation (afterSealAll s) with
          quiesce := { state := .quiescing, commitPending := true, drainHeld := false, drnAck := false }
          port := { s.port.acked 0x10 with result := .pending }
          wires := Wires.answer true }))

/-- R153 to R158: DRN_REQ rising in RUN invalidates the prefetch buffer (R112, afterInvalidation); with the QUIET condition met it takes the controller to QUIET with DRN_ACK high; without it every FILLING slot is sealed and the controller is in QUIESCING with DRN_ACK low. In QUIESCING it is only held. DRN_REQ falling in QUIESCING with a commit pending is only released; in QUIET, and in QUIESCING without a commit, the controller returns to RUN with DRN_ACK low, and a request waiting on the link is examined anew unless a DIRECT access still holds acceptance. In afterInvalidation the reads of two REQUESTED entries join class DEMAND by entry index, which is the model's choice (log entry 9). -/
def Obligations.DrainLineMovesController : Prop :=
  ∀ s : State, s.inReset = false → QuiesceLaw s.quiesce →
    (s.quiesce.state = .run → TagsWhole s → quietCondition s = true → exec .drnReqRise s = .next
      { afterInvalidation s with
        quiesce := { state := .quiet, commitPending := false, drainHeld := true, drnAck := true }
        wires := Wires.idle }) ∧
    (s.quiesce.state = .run → TagsWhole s → AgesWhole s → quietCondition s = false → exec .drnReqRise s = .next
      (drainTest
        { afterInvalidation (afterSealAll s) with
          quiesce := { state := .quiescing, commitPending := false, drainHeld := true, drnAck := false }
          wires := Wires.idle })) ∧
    (s.quiesce.state = .quiescing → exec .drnReqRise s = .next
      { s with quiesce := { s.quiesce with drainHeld := true }, wires := Wires.idle }) ∧
    (s.quiesce.state = .quiescing → s.quiesce.commitPending = true → exec .drnReqFall s = .next
      { s with quiesce := { s.quiesce with drainHeld := false }, wires := Wires.idle }) ∧
    ∀ u : State,
      (s.quiesce.state = .quiet ∨ s.quiesce.state = .quiescing ∧ s.quiesce.commitPending = false) →
      u =
        { s with
          quiesce := { state := .run, commitPending := false, drainHeld := false, drnAck := false }
          wires := Wires.idle } →
      exec .drnReqFall s = .next (drainTest
        (match s.acc.head with
          | some m => if acceptStopped u then u else examine m u
          | none => u))

/-! ### The management port -/

/-- R169: LOG_POP removes the oldest record, with result DONE, and with no record is REFUSED and changes nothing else. R170: LOG_CLEAR_OVF sets the overflow count to 0, with result DONE, and changes nothing else. The byte is one that lands at the command register; the port's pointer and acknowledge are left to CommandBytes. -/
def Obligations.LogCommands : Prop :=
  ∀ (s : State) (f : Bool), s.inReset = false → Lands s f 0x10 →
    (∃ t : State, exec (.logPop f) s = .next t ∧
      t =
        { s with
          flog := { s.flog with records := s.flog.records.tail }
          port :=
            { s.port with
              index := t.port.index, transfer := t.port.transfer
              result := if s.flog.records = [] then .refused else .done }
          wires := t.wires }) ∧
    ∃ t : State, exec (.logClearOvf f) s = .next t ∧
      t =
        { s with
          flog := { s.flog with overflow := 0 }
          port := { s.port with index := t.port.index, transfer := t.port.transfer, result := .done }
          wires := t.wires }

/-- R193, R190: PROTO_CLEAR sets both captures to NONE, with result DONE; an unassigned code changes nothing and is REFUSED. Every command's byte that lands at the command register is acknowledged, and the pointer stands past it at 11h (log entry 22, deduced). -/
def Obligations.CommandBytes : Prop :=
  (∀ (s : State) (f : Bool), s.inReset = false → Lands s f 0x10 → exec (.protoClear f) s = .next
    { s with
      acc := { s.acc with capture := none }
      trk := { s.trk with capture := none }
      port := { s.port.acked 0x10 with result := .done }
      wires := Wires.answer true }) ∧
    (∀ (s : State) (code : Byte) (f : Bool), s.inReset = false → Lands s f 0x10 →
      (Instr.unknownCommand code f).wf = true →
      exec (.unknownCommand code f) s = .next
        { s with port := { s.port.acked 0x10 with result := .refused }, wires := Wires.answer true }) ∧
    ∀ (s : State) (c : Instr) (b : PortByte), s.inReset = false → c.wf = true → portByte c = some b →
      b.index = 0x10 → Lands s b.follows 0x10 →
      ∃ t : State, exec c s = .next t ∧ t.port.index = 0x11 ∧ t.port.transfer = .write ∧ t.wires.ack = some true

/-- R174: a write to the interrupt status clears each bit written as 1 and leaves each bit written as 0, and changes no other register; its byte is acknowledged (R190), and the pointer then stands past it, at 19h (R189). A read of it shows the five bits and changes no state but the port's own (where the pointer then stands is TransfersMovePointer). -/
def Obligations.StatusWriteClears : Prop :=
  (∀ (s : State) (v : Byte) (f : Bool), s.inReset = false → Lands s f 0x18 →
    ∃ status : BitVec 5, (∀ k, status.getLsbD k = (s.irq.status.getLsbD k && !v.getLsbD k)) ∧
      exec (.interruptStatusWrite v f) s = .next
        { s with
          irq := { s.irq with status := status }
          port := { s.port with index := 0x19, transfer := .write }
          wires := Wires.answer true }) ∧
    ∀ (s : State) (start : Option (BitVec 7)) (more : Bool), s.inReset = false → s.port.index = 0x18 →
      (start = some (ownAddress s) ∨ start = none ∧ ∃ c, s.port.transfer = .read c) →
      ∃ t : State, exec (.readTransfer start more) s = .next t ∧
        t.wires.sda = some (s.irq.status.setWidth 8) ∧
        t =
          { s with
            port := { s.port with index := t.port.index, transfer := t.port.transfer }
            wires := t.wires }

/-- R175: IRQ_N is low exactly while a status bit is set whose mask bit is clear; a write to the mask takes the written value for all five bits, is acknowledged, and changes nothing else. -/
def Obligations.MaskDrivesLine : Prop :=
  (∀ s : State, irqN s = false ↔
    ∃ k, k < 5 ∧ s.irq.status.getLsbD k = true ∧ s.irq.mask.getLsbD k = false) ∧
    ∀ (s : State) (v : Byte) (f : Bool), s.inReset = false → Lands s f 0x19 →
      exec (.interruptMaskWrite v f) s = .next
        { s with
          irq := { s.irq with mask := v.extractLsb' 0 5 }
          port := s.port.acked 0x19
          wires := Wires.answer true }

/-- R190, R192: a byte in range written at one of the four thresholds is acknowledged and taken, one out of range is refused and nothing is written; the default hold time takes every byte; at a read-only or unassigned index the byte is acknowledged and discarded. The low byte of the response timeout is held and changes no timeout. The high byte joins the held low byte, or the current one where none is held; the value 0 is refused, any other is taken; the held byte is dropped either way. -/
def Obligations.RegisterWritesChecked : Prop :=
  (∀ (s : State) (i v : Byte) (f : Bool), s.inReset = false → Lands s f i →
    (∀ (lo hi : Nat) (c : Thresholds),
      (i = 0x08 ∧ lo = 1 ∧ hi = 16 ∧ c = { s.cfg with highWatermark := v } ∨
        i = 0x09 ∧ lo = 1 ∧ hi = 255 ∧ c = { s.cfg with promotionTime := v } ∨
        i = 0x0A ∧ lo = 0 ∧ hi = 15 ∧ c = { s.cfg with retryLimit := v } ∨
        i = 0x0B ∧ lo = 1 ∧ hi = 15 ∧ c = { s.cfg with backoffBase := v }) →
      exec (.registerWrite i v f) s = .next
        (if lo ≤ v.toNat ∧ v.toNat ≤ hi then
          { s with cfg := c, port := s.port.acked i, wires := Wires.answer true }
        else { s with port := s.port.refused i, wires := Wires.answer false })) ∧
    (i = 0x0F → exec (.registerWrite i v f) s = .next
      { s with win := { s.win with defaultHold := v }, port := s.port.acked i, wires := Wires.answer true }) ∧
    ((Instr.registerWrite i v f).wf = true → i ∉ [0x08, 0x09, 0x0A, 0x0B, 0x0F] →
      exec (.registerWrite i v f) s = .next { s with port := s.port.acked i, wires := Wires.answer true })) ∧
  (∀ (s : State) (v : Byte) (f : Bool), s.inReset = false → Lands s f 0x0C →
    exec (.responseTimeoutLowWrite v f) s = .next
      { s with port := { s.port.acked 0x0C with heldLow := some v }, wires := Wires.answer true }) ∧
  ∀ (s : State) (v : Byte) (f : Bool) (n : BitVec 16), s.inReset = false → Lands s f 0x0D →
    n = v ++ s.port.heldLow.getD (s.cfg.responseTimeout.extractLsb' 0 8) →
    exec (.responseTimeoutHighWrite v f) s = .next
      (if n = 0 then
        { s with port := { s.port.refused 0x0D with heldLow := none }, wires := Wires.answer false }
      else
        { s with
          cfg := { s.cfg with responseTimeout := n }
          port := { s.port.acked 0x0D with heldLow := none }
          wires := Wires.answer true })

/-- R160, R190, R192: while COMMIT_PENDING is set a byte of the staged table is refused and nothing is written; otherwise it is acknowledged, its register reads back as the bits it holds, every other register of the staged table reads as before, and the active table and the default hold time are unchanged. -/
def Obligations.StagedWritesTaken : Prop :=
  ∀ (s : State) (i v : Byte) (f : Bool), s.inReset = false → Lands s f i →
    (Instr.stagedTableWrite i v f).wf = true →
    (s.quiesce.commitPending = true → exec (.stagedTableWrite i v f) s = .next
      { s with port := s.port.refused i, wires := Wires.answer false }) ∧
    (s.quiesce.commitPending = false → ∃ t : State, exec (.stagedTableWrite i v f) s = .next t ∧
      t =
        { s with
          win := { s.win with staged := t.win.staged }
          port := s.port.acked i
          wires := Wires.answer true } ∧
      ∀ h, readReg t h i = v &&& stagedBits i ∧
        ∀ j, isStagedIndex j = true → j ≠ i → readReg t h j = readReg s h j)

/-- R189, R190, R191: the port's own address is 58h plus the straps. A write transfer to it sets the pointer, and each data byte that follows is written at the pointer, whatever register the command of the byte names; a data byte that begins its transfer is that pointer write and then that byte (log entry 11). After a refused byte, and outside a write transfer of the port's own, data bytes are not acknowledged and change nothing. A byte read in a read transfer, outside the log head, shows the register at the pointer, which then stands past it, 00h after FFh; outside a read transfer of its own the port sends none. Any other address is not acknowledged and moves no pointer, and the port takes no part in its transfer. What `ack` records for a byte that the port sends (true) or does not send (false) is the model's choice (log entry 14). -/
def Obligations.TransfersMovePointer : Prop :=
  (∀ s : State, (ownAddress s).toNat = 0x58 + s.port.straps.toNat) ∧
    (∀ (s : State) (i : Byte), s.inReset = false → exec (.indexPointerWrite (ownAddress s) i) s = .next
      { s with port := { s.port with index := i, transfer := .write }, wires := Wires.answer true }) ∧
    (∀ (s : State) (c c' : Instr) (b b' : PortByte), portByte c = some b → portByte c' = some b' →
      b.follows = true → b'.follows = true → b.value = b'.value → exec c s = exec c' s) ∧
    (∀ (s u : State) (c c' : Instr) (b : PortByte), s.inReset = false → portByte c = some b → b.follows = false →
      portByte c' = some { b with follows := true } →
      exec (.indexPointerWrite (ownAddress s) b.index) s = .next u → exec c s = exec c' u) ∧
    (∀ (s : State) (c : Instr) (b : PortByte), s.inReset = false → portByte c = some b → b.follows = true →
      s.port.transfer ≠ .write → exec c s = .next (s.setWires (Wires.answer false))) ∧
    (∀ (s : State) (start : Option (BitVec 7)) (more : Bool) (c : Option (Option LossRecord)), s.inReset = false →
      inLogHead s.port.index = false →
      (start = some (ownAddress s) ∧ c = none ∨ start = none ∧ s.port.transfer = .read c) →
      exec (.readTransfer start more) s = .next
        { s with
          port :=
            { s.port with
              index := if s.port.index = 0xFF then 0x00 else s.port.index + 1
              transfer := if more then .read c else .none }
          wires := { Wires.answer true with sda := some (readReg s none s.port.index) } }) ∧
    (∀ (s : State) (more : Bool), s.inReset = false → (∀ c, s.port.transfer ≠ .read c) →
      exec (.readTransfer none more) s = .next (s.setWires (Wires.answer false))) ∧
    ∀ (s : State) (a : BitVec 7) (i : Byte) (more : Bool) (c : Instr), s.inReset = false → a ≠ ownAddress s →
      (c = .indexPointerWrite a i ∨ c = .readTransfer (some a) more) →
      exec c s = .next { s with port := { s.port with transfer := .none }, wires := Wires.answer false }

/-- R192, R191, R193: what the registers of the summary read as, each code spelled out, but for the log head 30h to 41h, which is LogHeadCopied; an unassigned index reads 00h in every state, and so does the command register. That 0Ch and 0Dh show the timeout in force also while a written low byte is held is log entry 21, deduced. -/
def Obligations.RegisterSummaryReads : Prop :=
  ∀ (s : State) (h : Option LossRecord) (classCode : AccessClass → Byte), FencesBounded s → LogBounded s →
    classCode = (fun c => match c with | .combine => 0 | .sequence => 1 | .direct => 2 | .reject => 3) →
    (readReg s h 0x00 = 0x46 ∧ readReg s h 0x01 = 0x40 ∧ readReg s h 0x02 = 0x16 ∧ readReg s h 0x03 = 0x01) ∧
    (readReg s h 0x08 = s.cfg.highWatermark ∧ readReg s h 0x09 = s.cfg.promotionTime ∧
      readReg s h 0x0A = s.cfg.retryLimit ∧ readReg s h 0x0B = s.cfg.backoffBase ∧
      readReg s h 0x0D ++ readReg s h 0x0C = s.cfg.responseTimeout ∧
      readReg s h 0x0E = classCode s.win.staged.dflt ∧ readReg s h 0x0F = s.win.defaultHold) ∧
    (readReg s h 0x10 = 0 ∧
      readReg s h 0x11 = (match s.port.result with
        | .none => 0 | .done => 1 | .refused => 2 | .pending => 3 | .invalid => 4 | .aborted => 5) ∧
      readReg s h 0x18 = s.irq.status.setWidth 8 ∧ readReg s h 0x19 = s.irq.mask.setWidth 8) ∧
    ((readReg s h 0x20).toNat = ((List.finRange 16).filter fun i => (slotAt s i).isSome).length ∧
      (readReg s h 0x21).toNat = freeCount s ∧ (readReg s h 0x22).toNat = s.fence.list.length ∧
      readReg s h 0x23 = s.fence.epoch ∧
      readReg s h 0x24 = (match s.quiesce.state with | .run => 0 | .quiescing => 1 | .quiet => 2) ∧
      readReg s h 0x25 = if s.quiesce.drnAck then 1 else 0) ∧
    (readReg s h 0x2C = s.trk.lateCount ∧ (readReg s h 0x2D).toNat = s.flog.records.length ∧
      readReg s h 0x2E = s.flog.overflow) ∧
    ((readReg s h 0x28, readReg s h 0x29) =
      match s.acc.capture with
      | none => (0, 0)
      | some ⟨.tagInUse, t⟩ => (1, BitVec.ofNat 8 t.val)
      | some ⟨.badOp, t⟩ => (2, BitVec.ofNat 8 t.val)
      | some ⟨.badSpan, t⟩ => (3, BitVec.ofNat 8 t.val)) ∧
    ((readReg s h 0x2A, readReg s h 0x2B) =
      match s.trk.capture with
      | none => (0, 0)
      | some ⟨.stray, m⟩ => (1, BitVec.ofNat 8 m.val)
      | some ⟨.badResp, m⟩ => (2, BitVec.ofNat 8 m.val)) ∧
    (∀ i : Byte, (4 ≤ i.toNat ∧ i.toNat < 8 ∨ 0x12 ≤ i.toNat ∧ i.toNat < 0x18 ∨ 0x1A ≤ i.toNat ∧ i.toNat < 0x20 ∨
        0x26 ≤ i.toNat ∧ i.toNat < 0x28 ∨ i.toNat = 0x2F ∨ 0x42 ≤ i.toNat ∧ i.toNat < 0x50 ∨
        0x50 ≤ i.toNat ∧ i.toNat < 0xD0 ∧ 10 ≤ i.toNat % 16 ∨ 0xD0 ≤ i.toNat) → readReg s h i = 0) ∧
    ∀ n : Fin 8, ∀ w, w = s.win.staged.recs[n] →
      readReg s h (0x51 + BitVec.ofNat 8 (16 * n.val)) = w.hold ∧
      (∀ k, (readReg s h (0x50 + BitVec.ofNat 8 (16 * n.val))).getLsbD k =
        (k == 0 && w.enable || k == 1 && w.prefetch || k == 2 && (classCode w.cls).getLsbD 0 ||
          k == 3 && (classCode w.cls).getLsbD 1)) ∧
      (readReg s h (0x55 + BitVec.ofNat 8 (16 * n.val)) ++ readReg s h (0x54 + BitVec.ofNat 8 (16 * n.val)) ++
        readReg s h (0x53 + BitVec.ofNat 8 (16 * n.val)) ++ readReg s h (0x52 + BitVec.ofNat 8 (16 * n.val)) =
          w.base.setWidth 32) ∧
      readReg s h (0x59 + BitVec.ofNat 8 (16 * n.val)) ++ readReg s h (0x58 + BitVec.ofNat 8 (16 * n.val)) ++
        readReg s h (0x57 + BitVec.ofNat 8 (16 * n.val)) ++ readReg s h (0x56 + BitVec.ofNat 8 (16 * n.val)) =
          w.limit.setWidth 32

/-- R168, R191, R192: the first byte of the log head that a read transfer reaches is read from a copy of the oldest record taken in that event; the transfer's further bytes within the head are read from that copy. Byte 0 of the head is the cause, bytes 1 to 4 are window, class, epoch and attempts, each code spelled out, bytes 5 to 9 the line address and bytes 10 to 17 the lost-byte mask, lowest byte first; with no record every byte is 0. LOG_HEAD_READ is a byte of a read transfer as READ_TRANSFER is, at the pointer (log entry 12). What `ack` records for a byte that the port sends is the model's choice (log entry 14). -/
def Obligations.LogHeadCopied : Prop :=
  (∀ (s : State) (start : Option (BitVec 7)) (more : Bool),
    exec (.logHeadRead start more) s = exec (.readTransfer start more) s) ∧
    (∀ (s : State) (start : Option (BitVec 7)) (more : Bool) (old : Option (Option LossRecord))
      (c : Option LossRecord), s.inReset = false → inLogHead s.port.index = true →
      (start = some (ownAddress s) ∧ old = none ∨ start = none ∧ s.port.transfer = .read old) →
      c = old.getD s.flog.records.head? →
      exec (.logHeadRead start more) s = .next
        { s with
          port :=
            { s.port with
              index := s.port.index + 1
              transfer := if more then .read (some c) else .none }
          wires := { Wires.answer true with sda := some (headImage c (s.port.index.toNat - 0x30)) } }) ∧
    (∀ k, headImage none k = 0) ∧
    ∀ r : LossRecord,
      headImage (some r) 0 = (match r.cause with
        | .deferLimit => 1 | .memFault => 2 | .timeout => 3 | .resetDiscard => 4) ∧
      headImage (some r) 1 = (match r.window with | .win n => BitVec.ofNat 8 n.val | .default => 8) ∧
      headImage (some r) 2 = (match r.cls with | .combine => 0 | .sequence => 1 | .direct => 2 | .reject => 3) ∧
      headImage (some r) 3 = r.epoch ∧
      headImage (some r) 4 = BitVec.ofNat 8 r.attempts ∧
      (∀ k, k < 5 → headImage (some r) (5 + k) = (lineAddr r.line).extractLsb' (8 * k) 8) ∧
      ∀ k, k < 8 → headImage (some r) (10 + k) = r.mask.extractLsb' (8 * k) 8

/-! ### Resets -/

/-- R194, R74, R113: DP_RESET is taken exactly in an idle part: no slot non-EMPTY, no tracker entry ISSUED or BACKOFF, every tag FREE, no fence outstanding. Then the epoch is 0, the loss flag clear, the prefetch buffer empty with its requests withdrawn, and the result DONE; otherwise it is REFUSED; nothing else changes. -/
def Obligations.DpResetOnlyWhenIdle : Prop :=
  ∀ (s : State) (f : Bool), s.inReset = false → Lands s f 0x10 → ∀ isIdle : Prop,
    isIdle = ((∀ i, slotAt s i = none) ∧ (∀ m, entryAt s m = .free ∨ ∃ n, entryAt s m = .late n) ∧
      (∀ t, tagState s t = .free) ∧ s.fence.list = []) →
    (isIdle → exec (.dpReset f) s = .next
      { s with
        fence := { epoch := 0, list := [], loss := false }
        pf := { entries := Vector.replicate 4 none, recency := [0, 1, 2, 3] }
        arb := { s.arb with prefetch := [] }
        port := { s.port.acked 0x10 with result := .done }
        wires := Wires.answer true }) ∧
    (¬isIdle → exec (.dpReset f) s = .next
      { s with port := { s.port.acked 0x10 with result := .refused }, wires := Wires.answer true })

/-- R195, R17, R44, R63, R75, R98, R114, R139, R149, R163, R172: DP_RESET_FORCE answers every waiting tag in tag order, ERROR RESET or FACK LOSS; records every non-EMPTY slot in age order as RESET_DISCARD, with its line, window, class and epoch, attempts 0, and the valid bytes that lie in no DONE piece of it, as far as the log has room, the others counted; empties slots, age list, drain queue, fence list, pending read list, prefetch buffer and ready orders; sets epoch 0 and clears the loss flag; makes ISSUED entries LATE for 16 times the response timeout and BACKOFF entries FREE; aborts a pending commit, the result then ABORTED, else DONE; and leaves the controller in QUIET or RUN by DRAIN_HELD. Then, within the same event, a request waiting on the link is examined as at any event's end (EventEnds), and may stand in the ready orders, open a slot, advance the epoch, or as a request in error set PROTO and fill the capture (log entry 25, the model's choice). -/
def Obligations.DpResetForceClears : Prop :=
  (∀ (s : State) (f : Bool), s.inReset = false → Lands s f 0x10 → ∃ u v : State, v = finishEvent (s.setWires Wires.idle) u ∧
    exec (.dpResetForce f) s = .next
      { v with port := u.port.acked 0x10, wires := { v.wires with ack := some true } } ∧
    u =
      { s with
        acc :=
          { s.acc with
            tags := u.acc.tags
            queue := s.acc.queue ++ (List.finRange 32).filterMap fun t =>
              match tagState s t with
              | .read => some (.rdataError t .reset)
              | .direct .read => some (.rdataError t .reset)
              | .direct .write => some (.wackError t .reset)
              | .confirmWrite => some (.wackError t .reset)
              | .fence => some (.fack t true)
              | .responding => none
              | .free => none }
        buf := { slots := Vector.replicate 16 none, ages := [] }
        drain := { queue := [] }
        fence := { epoch := 0, list := [], loss := false }
        rd := { reads := [] }
        pf := { entries := Vector.replicate 4 none, recency := [0, 1, 2, 3] }
        trk := { s.trk with entries := u.trk.entries }
        arb := { s.arb with demand := [], drain := [], prefetch := [] }
        quiesce :=
          { s.quiesce with
            state := if s.quiesce.drainHeld then .quiet else .run
            commitPending := false
            drnAck := s.quiesce.drainHeld }
        flog := u.flog
        irq := { s.irq with status := u.irq.status }
        port := { s.port with result := if s.quiesce.commitPending then .aborted else .done }
        wires := Wires.idle } ∧
    (∀ t, tagState u t = if tagState s t = .free then .free else .responding) ∧
    (∀ m, entryAt u m =
      match entryAt s m with
      | .issued _ _ _ => .late (16 * s.cfg.responseTimeout.toNat)
      | .late n => .late n
      | _ => .free) ∧
    ∀ (ds : List LossRecord) (room : Nat),
      ds = s.buf.ages.filterMap (fun i => (slotAt s i).map discardRecord) → room = 8 - s.flog.records.length →
      u.flog.records = s.flog.records ++ ds.take room ∧
      u.flog.overflow.toNat = min 255 (s.flog.overflow.toNat + (ds.length - room)) ∧
      u.irq.status =
        s.irq.status ||| (if ds.take room = [] then 0 else 1) ||| (if room < ds.length then 2 else 0)) ∧
  ∀ x : Slot,
    discardRecord x =
      { cause := .resetDiscard, line := x.line, mask := (discardRecord x).mask, window := x.window, cls := x.cls
        epoch := x.epoch, attempts := 0 } ∧
    ∀ k, (discardRecord x).mask.getLsbD k = true ↔ x.valid.getLsbD k = true ∧
      ∀ ps p, x.phase = .draining ps → p ∈ ps → p.outcome = .done → p.mask.getLsbD k = false

/-- R197, R164, R182: RST_N returns the part to the state after reset, whatever it held; held, the port answers nothing and IRQ_N is high; at its end the straps are sampled, and with DRN_REQ high the controller stands in QUIET with DRN_ACK high. The level of MREQ_READY is the controller's own, and the straps are not sampled while it is held (log entry 13). -/
def Obligations.PowerOnResets : Prop :=
  ∀ (s : State) (straps : BitVec 2) (drn : Bool),
    exec (.powerOnReset true straps drn) s = .next
      { State.reset with
        arb := { State.reset.arb with mreqReady := s.arb.mreqReady }
        port := { State.reset.port with straps := s.port.straps }
        inReset := true
        pending := s.pending } ∧
    exec (.powerOnReset false straps drn) s = .next
      { State.reset with
        arb := { State.reset.arb with mreqReady := s.arb.mreqReady }
        quiesce :=
          if drn then { state := .quiet, commitPending := false, drainHeld := true, drnAck := true }
          else { state := .run, commitPending := false, drainHeld := false, drnAck := false }
        port := { State.reset.port with straps := straps }
        pending := s.pending } ∧
    irqN State.reset = true

/-! ### Codings and invariants -/

/-- R183, R186, R190, R192, R193: each coding that is read back gives what was coded, with every operand at every value: the request message, the memory response message, and the byte of every well-formed management write; and every byte at every index is one well-formed command, which stands for that byte. And the fields of each message stand at their bits, with their codes: those of a request (R183) and of a memory response (R186, R188) as received; those of a response (R184), its reason 00b with an OK and its lanes zero where it carries no data; those of a memory request (R185), the address of a piece's MWR being the line address plus 8 times its granule start, its data the line's bytes on the piece's lanes and zero on the others (R54). The codes of the command register are those of R193. -/
def Obligations.CodingsRoundTrip : Prop :=
  (∀ r : Request, r.span.size < 128 → decodeRequest (encodeRequest r) = r) ∧
    (∀ (c : Instr) (d : Lanes) (h : BitVec 6), mrspHeader c = some h → (∀ m e, c = .done m e → e = d) →
      mrspCommand h d = c) ∧
    (∀ (c : Instr) (b : PortByte), c.wf = true → portByte c = some b → portCommand b = c) ∧
    (∀ b : PortByte, (portCommand b).wf = true ∧ portByte (portCommand b) = some b) ∧
    (∀ f : Bool, [Instr.commit f, .dpReset f, .dpResetForce f, .logPop f, .logClearOvf f, .protoClear f].map portByte =
      [1, 2, 3, 4, 5, 6].map fun code => some { index := 0x10, value := code, follows := f }) ∧
    (∀ m : IReqMsg, (decodeRequest m).tag.val = (m.hdr.extractLsb' 3 5).toNat ∧
      (decodeRequest m).confirm = m.hdr.getLsbD 8 ∧ (decodeRequest m).span.size = (m.hdr.extractLsb' 9 7).toNat ∧
      (decodeRequest m).span.addr = m.hdr.extractLsb' 16 40 ∧ (decodeRequest m).data = m.data ∧
      ((decodeRequest m).op = .read ↔ m.hdr.extractLsb' 0 3 = 0) ∧
      ((decodeRequest m).op = .write ↔ m.hdr.extractLsb' 0 3 = 1) ∧
      ((decodeRequest m).op = .fence ↔ m.hdr.extractLsb' 0 3 = 2)) ∧
    (∀ (m : MemTag) (d : Lanes) (h : BitVec 6), h.extractLsb' 2 4 = BitVec.ofNat 4 m.val →
      (h.extractLsb' 0 2 = 0 → mrspCommand h d = .done m d) ∧ (h.extractLsb' 0 2 = 1 → mrspCommand h d = .defer m) ∧
      (h.extractLsb' 0 2 = 2 → mrspCommand h d = .fault m) ∧ (h.extractLsb' 0 2 = 3 → mrspCommand h d = .badResp m)) ∧
    (∀ (x : Response) (code : Reason → BitVec 2),
      code = (fun r => match r with | .rejected => 0 | .malformed => 1 | .memory => 2 | .reset => 3) →
      (x.header.extractLsb' 0 2, x.header.extractLsb' 2 5, x.header.getLsbD 7, x.header.extractLsb' 8 2, x.lanes) =
        match x with
        | .rdataOk t d => (0, BitVec.ofNat 5 t.val, false, 0, d)
        | .rdataError t r => (0, BitVec.ofNat 5 t.val, true, code r, Vector.replicate 64 0)
        | .wackOk t => (1, BitVec.ofNat 5 t.val, false, 0, Vector.replicate 64 0)
        | .wackError t r => (1, BitVec.ofNat 5 t.val, true, code r, Vector.replicate 64 0)
        | .fack t loss => (2, BitVec.ofNat 5 t.val, loss, 0, Vector.replicate 64 0)) ∧
    (∀ (m : MemTag) (sp : Span), (memHeader m (.mrd sp)).getLsbD 0 = false ∧
      (memHeader m (.mrd sp)).extractLsb' 1 4 = BitVec.ofNat 4 m.val ∧
      (memHeader m (.mrd sp)).extractLsb' 5 40 = sp.addr ∧
      (memHeader m (.mrd sp)).extractLsb' 45 7 = BitVec.ofNat 7 sp.size ∧
      (memHeader m (.mrd sp)).extractLsb' 52 4 = 0 ∧ (MemOp.mrd sp).lanes = Vector.replicate 64 0) ∧
    (∀ (m : MemTag) (a : Addr) (sh : Shape) (d : Lanes), (memHeader m (.mwr a sh d)).getLsbD 0 = true ∧
      (memHeader m (.mwr a sh d)).extractLsb' 1 4 = BitVec.ofNat 4 m.val ∧
      (memHeader m (.mwr a sh d)).extractLsb' 5 40 = a ∧
      ((memHeader m (.mwr a sh d)).extractLsb' 45 3, (memHeader m (.mwr a sh d)).extractLsb' 48 8) =
        (match sh with
        | .burst .one => (0, 0)
        | .burst .two => (1, 0)
        | .burst .four => (2, 0)
        | .burst .eight => (3, 0)
        | .masked flags => (4, flags)) ∧
      (MemOp.mwr a sh d).lanes = d) ∧
    ∀ (l : Line) (d : Lanes) (p : Piece), ∃ (a : Addr) (e : Lanes), pieceWrite l d p = .mwr a p.shape e ∧
      a.toNat = 64 * l.toNat + 8 * p.start.val ∧ ∀ k : Fin 64, e[k] = if p.mask.getLsbD k.val then d[k] else 0

/-- Every step keeps the bounds of the fault log (R166), the fence list (R64), the recency order (R101), the thresholds (R147, R122, R123, R119), the counts of every tracker entry (R115: attempts 0 to 15; R119, R123, R130: no timer that runs stands at 0, a response timer at most at 65535, a backoff timer at 480, a reclaim timer at 1048560) and every hold timer (R18: 1 to 255). -/
def Obligations.StepKeepsBounds : Prop :=
  ∀ s t : State, Bounded s → step s = .next t → Bounded t

/-- Every step keeps the quiesce controller's laws (R152, R155, R158) and, in QUIET, the QUIET condition (R154); and under them DRN_ACK is high only while DRN_REQ is held high, acceptance is stopped, no slot is non-EMPTY, and no MWR entry is ISSUED or in BACKOFF (R158). -/
def Obligations.StepKeepsQuiesceLaws : Prop :=
  (∀ s t : State, QuiesceSafe s → step s = .next t → QuiesceSafe t) ∧
    ∀ s : State, QuiesceSafe s → s.quiesce.drnAck = true →
      s.quiesce.drainHeld = true ∧ acceptStopped s = true ∧ (∀ i, slotAt s i = none) ∧
        ∀ m req, ((∃ a n, entryAt s m = .issued req a n) ∨ (∃ a n, entryAt s m = .backoffWaiting req a n) ∨
          ∃ a, entryAt s m = .backoffOffered req a) → req.op.isWrite = false

/-- Every step keeps the age list the list of the non-EMPTY slots (R19) and the drain queue the list of the SEALED and DRAINING ones (R46), each slot once. -/
def Obligations.StepKeepsBufferWhole : Prop :=
  ∀ s t : State, BufferWhole s → step s = .next t → BufferWhole t

/-- Every step keeps the tags of the response queue, the pending reads, the fences and the slots' waiters in step with the upstream tag table (R1, R16, R64, R76, R18). -/
def Obligations.StepKeepsTagsWhole : Prop :=
  ∀ s t : State, TagsWhole s → step s = .next t → TagsWhole t

/-- R192, R197: the state after reset shows each register's default, over every index from 00h to FFh: those listed, and 00h at every other one; and the invariants hold in it. -/
def Obligations.ResetStateLawful : Prop :=
  (∀ i : Byte, readReg State.reset none i =
    (([(0x00, 0x46), (0x01, 0x40), (0x02, 0x16), (0x03, 0x01), (0x08, 0x0C), (0x09, 0x20), (0x0A, 0x07),
        (0x0B, 0x02), (0x0C, 0xF4), (0x0D, 0x01), (0x0E, 0x02), (0x0F, 0x08), (0x19, 0x1F), (0x21, 0x10),
        (0x50, 0x08), (0x51, 0x08), (0x60, 0x08), (0x61, 0x08), (0x70, 0x08), (0x71, 0x08), (0x80, 0x08),
        (0x81, 0x08), (0x90, 0x08), (0x91, 0x08), (0xA0, 0x08), (0xA1, 0x08), (0xB0, 0x08), (0xB1, 0x08),
        (0xC0, 0x08), (0xC1, 0x08)] : List (Byte × Byte)).lookup i).getD 0x00) ∧
    Bounded State.reset ∧ QuiesceSafe State.reset ∧ BufferWhole State.reset ∧ TagsWhole State.reset
end

