-- ==== Sys2Proof/Laws/State.lean ====
section
/-! SUPPORT. One lemma per field and per named update of State: what the update leaves in that field. -/

namespace Sys2Proof.Machine

set_option Elab.async false

variable (s : State)

@[simp] theorem State.setAcc_acc (x) : (s.setAcc x).acc = x := rfl
@[simp] theorem State.setAcc_win (x) : (s.setAcc x).win = s.win := rfl
@[simp] theorem State.setAcc_buf (x) : (s.setAcc x).buf = s.buf := rfl
@[simp] theorem State.setAcc_drain (x) : (s.setAcc x).drain = s.drain := rfl
@[simp] theorem State.setAcc_fence (x) : (s.setAcc x).fence = s.fence := rfl
@[simp] theorem State.setAcc_rd (x) : (s.setAcc x).rd = s.rd := rfl
@[simp] theorem State.setAcc_pf (x) : (s.setAcc x).pf = s.pf := rfl
@[simp] theorem State.setAcc_trk (x) : (s.setAcc x).trk = s.trk := rfl
@[simp] theorem State.setAcc_arb (x) : (s.setAcc x).arb = s.arb := rfl
@[simp] theorem State.setAcc_quiesce (x) : (s.setAcc x).quiesce = s.quiesce := rfl
@[simp] theorem State.setAcc_flog (x) : (s.setAcc x).flog = s.flog := rfl
@[simp] theorem State.setAcc_irq (x) : (s.setAcc x).irq = s.irq := rfl
@[simp] theorem State.setAcc_cfg (x) : (s.setAcc x).cfg = s.cfg := rfl
@[simp] theorem State.setAcc_port (x) : (s.setAcc x).port = s.port := rfl
@[simp] theorem State.setAcc_wires (x) : (s.setAcc x).wires = s.wires := rfl
@[simp] theorem State.setAcc_inReset (x) : (s.setAcc x).inReset = s.inReset := rfl
@[simp] theorem State.setAcc_pending (x) : (s.setAcc x).pending = s.pending := rfl

@[simp] theorem State.setWin_acc (x) : (s.setWin x).acc = s.acc := rfl
@[simp] theorem State.setWin_win (x) : (s.setWin x).win = x := rfl
@[simp] theorem State.setWin_buf (x) : (s.setWin x).buf = s.buf := rfl
@[simp] theorem State.setWin_drain (x) : (s.setWin x).drain = s.drain := rfl
@[simp] theorem State.setWin_fence (x) : (s.setWin x).fence = s.fence := rfl
@[simp] theorem State.setWin_rd (x) : (s.setWin x).rd = s.rd := rfl
@[simp] theorem State.setWin_pf (x) : (s.setWin x).pf = s.pf := rfl
@[simp] theorem State.setWin_trk (x) : (s.setWin x).trk = s.trk := rfl
@[simp] theorem State.setWin_arb (x) : (s.setWin x).arb = s.arb := rfl
@[simp] theorem State.setWin_quiesce (x) : (s.setWin x).quiesce = s.quiesce := rfl
@[simp] theorem State.setWin_flog (x) : (s.setWin x).flog = s.flog := rfl
@[simp] theorem State.setWin_irq (x) : (s.setWin x).irq = s.irq := rfl
@[simp] theorem State.setWin_cfg (x) : (s.setWin x).cfg = s.cfg := rfl
@[simp] theorem State.setWin_port (x) : (s.setWin x).port = s.port := rfl
@[simp] theorem State.setWin_wires (x) : (s.setWin x).wires = s.wires := rfl
@[simp] theorem State.setWin_inReset (x) : (s.setWin x).inReset = s.inReset := rfl
@[simp] theorem State.setWin_pending (x) : (s.setWin x).pending = s.pending := rfl

@[simp] theorem State.setBuf_acc (x) : (s.setBuf x).acc = s.acc := rfl
@[simp] theorem State.setBuf_win (x) : (s.setBuf x).win = s.win := rfl
@[simp] theorem State.setBuf_buf (x) : (s.setBuf x).buf = x := rfl
@[simp] theorem State.setBuf_drain (x) : (s.setBuf x).drain = s.drain := rfl
@[simp] theorem State.setBuf_fence (x) : (s.setBuf x).fence = s.fence := rfl
@[simp] theorem State.setBuf_rd (x) : (s.setBuf x).rd = s.rd := rfl
@[simp] theorem State.setBuf_pf (x) : (s.setBuf x).pf = s.pf := rfl
@[simp] theorem State.setBuf_trk (x) : (s.setBuf x).trk = s.trk := rfl
@[simp] theorem State.setBuf_arb (x) : (s.setBuf x).arb = s.arb := rfl
@[simp] theorem State.setBuf_quiesce (x) : (s.setBuf x).quiesce = s.quiesce := rfl
@[simp] theorem State.setBuf_flog (x) : (s.setBuf x).flog = s.flog := rfl
@[simp] theorem State.setBuf_irq (x) : (s.setBuf x).irq = s.irq := rfl
@[simp] theorem State.setBuf_cfg (x) : (s.setBuf x).cfg = s.cfg := rfl
@[simp] theorem State.setBuf_port (x) : (s.setBuf x).port = s.port := rfl
@[simp] theorem State.setBuf_wires (x) : (s.setBuf x).wires = s.wires := rfl
@[simp] theorem State.setBuf_inReset (x) : (s.setBuf x).inReset = s.inReset := rfl
@[simp] theorem State.setBuf_pending (x) : (s.setBuf x).pending = s.pending := rfl

@[simp] theorem State.setDrain_acc (x) : (s.setDrain x).acc = s.acc := rfl
@[simp] theorem State.setDrain_win (x) : (s.setDrain x).win = s.win := rfl
@[simp] theorem State.setDrain_buf (x) : (s.setDrain x).buf = s.buf := rfl
@[simp] theorem State.setDrain_drain (x) : (s.setDrain x).drain = x := rfl
@[simp] theorem State.setDrain_fence (x) : (s.setDrain x).fence = s.fence := rfl
@[simp] theorem State.setDrain_rd (x) : (s.setDrain x).rd = s.rd := rfl
@[simp] theorem State.setDrain_pf (x) : (s.setDrain x).pf = s.pf := rfl
@[simp] theorem State.setDrain_trk (x) : (s.setDrain x).trk = s.trk := rfl
@[simp] theorem State.setDrain_arb (x) : (s.setDrain x).arb = s.arb := rfl
@[simp] theorem State.setDrain_quiesce (x) : (s.setDrain x).quiesce = s.quiesce := rfl
@[simp] theorem State.setDrain_flog (x) : (s.setDrain x).flog = s.flog := rfl
@[simp] theorem State.setDrain_irq (x) : (s.setDrain x).irq = s.irq := rfl
@[simp] theorem State.setDrain_cfg (x) : (s.setDrain x).cfg = s.cfg := rfl
@[simp] theorem State.setDrain_port (x) : (s.setDrain x).port = s.port := rfl
@[simp] theorem State.setDrain_wires (x) : (s.setDrain x).wires = s.wires := rfl
@[simp] theorem State.setDrain_inReset (x) : (s.setDrain x).inReset = s.inReset := rfl
@[simp] theorem State.setDrain_pending (x) : (s.setDrain x).pending = s.pending := rfl

@[simp] theorem State.setFence_acc (x) : (s.setFence x).acc = s.acc := rfl
@[simp] theorem State.setFence_win (x) : (s.setFence x).win = s.win := rfl
@[simp] theorem State.setFence_buf (x) : (s.setFence x).buf = s.buf := rfl
@[simp] theorem State.setFence_drain (x) : (s.setFence x).drain = s.drain := rfl
@[simp] theorem State.setFence_fence (x) : (s.setFence x).fence = x := rfl
@[simp] theorem State.setFence_rd (x) : (s.setFence x).rd = s.rd := rfl
@[simp] theorem State.setFence_pf (x) : (s.setFence x).pf = s.pf := rfl
@[simp] theorem State.setFence_trk (x) : (s.setFence x).trk = s.trk := rfl
@[simp] theorem State.setFence_arb (x) : (s.setFence x).arb = s.arb := rfl
@[simp] theorem State.setFence_quiesce (x) : (s.setFence x).quiesce = s.quiesce := rfl
@[simp] theorem State.setFence_flog (x) : (s.setFence x).flog = s.flog := rfl
@[simp] theorem State.setFence_irq (x) : (s.setFence x).irq = s.irq := rfl
@[simp] theorem State.setFence_cfg (x) : (s.setFence x).cfg = s.cfg := rfl
@[simp] theorem State.setFence_port (x) : (s.setFence x).port = s.port := rfl
@[simp] theorem State.setFence_wires (x) : (s.setFence x).wires = s.wires := rfl
@[simp] theorem State.setFence_inReset (x) : (s.setFence x).inReset = s.inReset := rfl
@[simp] theorem State.setFence_pending (x) : (s.setFence x).pending = s.pending := rfl

@[simp] theorem State.setRd_acc (x) : (s.setRd x).acc = s.acc := rfl
@[simp] theorem State.setRd_win (x) : (s.setRd x).win = s.win := rfl
@[simp] theorem State.setRd_buf (x) : (s.setRd x).buf = s.buf := rfl
@[simp] theorem State.setRd_drain (x) : (s.setRd x).drain = s.drain := rfl
@[simp] theorem State.setRd_fence (x) : (s.setRd x).fence = s.fence := rfl
@[simp] theorem State.setRd_rd (x) : (s.setRd x).rd = x := rfl
@[simp] theorem State.setRd_pf (x) : (s.setRd x).pf = s.pf := rfl
@[simp] theorem State.setRd_trk (x) : (s.setRd x).trk = s.trk := rfl
@[simp] theorem State.setRd_arb (x) : (s.setRd x).arb = s.arb := rfl
@[simp] theorem State.setRd_quiesce (x) : (s.setRd x).quiesce = s.quiesce := rfl
@[simp] theorem State.setRd_flog (x) : (s.setRd x).flog = s.flog := rfl
@[simp] theorem State.setRd_irq (x) : (s.setRd x).irq = s.irq := rfl
@[simp] theorem State.setRd_cfg (x) : (s.setRd x).cfg = s.cfg := rfl
@[simp] theorem State.setRd_port (x) : (s.setRd x).port = s.port := rfl
@[simp] theorem State.setRd_wires (x) : (s.setRd x).wires = s.wires := rfl
@[simp] theorem State.setRd_inReset (x) : (s.setRd x).inReset = s.inReset := rfl
@[simp] theorem State.setRd_pending (x) : (s.setRd x).pending = s.pending := rfl

@[simp] theorem State.setPf_acc (x) : (s.setPf x).acc = s.acc := rfl
@[simp] theorem State.setPf_win (x) : (s.setPf x).win = s.win := rfl
@[simp] theorem State.setPf_buf (x) : (s.setPf x).buf = s.buf := rfl
@[simp] theorem State.setPf_drain (x) : (s.setPf x).drain = s.drain := rfl
@[simp] theorem State.setPf_fence (x) : (s.setPf x).fence = s.fence := rfl
@[simp] theorem State.setPf_rd (x) : (s.setPf x).rd = s.rd := rfl
@[simp] theorem State.setPf_pf (x) : (s.setPf x).pf = x := rfl
@[simp] theorem State.setPf_trk (x) : (s.setPf x).trk = s.trk := rfl
@[simp] theorem State.setPf_arb (x) : (s.setPf x).arb = s.arb := rfl
@[simp] theorem State.setPf_quiesce (x) : (s.setPf x).quiesce = s.quiesce := rfl
@[simp] theorem State.setPf_flog (x) : (s.setPf x).flog = s.flog := rfl
@[simp] theorem State.setPf_irq (x) : (s.setPf x).irq = s.irq := rfl
@[simp] theorem State.setPf_cfg (x) : (s.setPf x).cfg = s.cfg := rfl
@[simp] theorem State.setPf_port (x) : (s.setPf x).port = s.port := rfl
@[simp] theorem State.setPf_wires (x) : (s.setPf x).wires = s.wires := rfl
@[simp] theorem State.setPf_inReset (x) : (s.setPf x).inReset = s.inReset := rfl
@[simp] theorem State.setPf_pending (x) : (s.setPf x).pending = s.pending := rfl

@[simp] theorem State.setTrk_acc (x) : (s.setTrk x).acc = s.acc := rfl
@[simp] theorem State.setTrk_win (x) : (s.setTrk x).win = s.win := rfl
@[simp] theorem State.setTrk_buf (x) : (s.setTrk x).buf = s.buf := rfl
@[simp] theorem State.setTrk_drain (x) : (s.setTrk x).drain = s.drain := rfl
@[simp] theorem State.setTrk_fence (x) : (s.setTrk x).fence = s.fence := rfl
@[simp] theorem State.setTrk_rd (x) : (s.setTrk x).rd = s.rd := rfl
@[simp] theorem State.setTrk_pf (x) : (s.setTrk x).pf = s.pf := rfl
@[simp] theorem State.setTrk_trk (x) : (s.setTrk x).trk = x := rfl
@[simp] theorem State.setTrk_arb (x) : (s.setTrk x).arb = s.arb := rfl
@[simp] theorem State.setTrk_quiesce (x) : (s.setTrk x).quiesce = s.quiesce := rfl
@[simp] theorem State.setTrk_flog (x) : (s.setTrk x).flog = s.flog := rfl
@[simp] theorem State.setTrk_irq (x) : (s.setTrk x).irq = s.irq := rfl
@[simp] theorem State.setTrk_cfg (x) : (s.setTrk x).cfg = s.cfg := rfl
@[simp] theorem State.setTrk_port (x) : (s.setTrk x).port = s.port := rfl
@[simp] theorem State.setTrk_wires (x) : (s.setTrk x).wires = s.wires := rfl
@[simp] theorem State.setTrk_inReset (x) : (s.setTrk x).inReset = s.inReset := rfl
@[simp] theorem State.setTrk_pending (x) : (s.setTrk x).pending = s.pending := rfl

@[simp] theorem State.setArb_acc (x) : (s.setArb x).acc = s.acc := rfl
@[simp] theorem State.setArb_win (x) : (s.setArb x).win = s.win := rfl
@[simp] theorem State.setArb_buf (x) : (s.setArb x).buf = s.buf := rfl
@[simp] theorem State.setArb_drain (x) : (s.setArb x).drain = s.drain := rfl
@[simp] theorem State.setArb_fence (x) : (s.setArb x).fence = s.fence := rfl
@[simp] theorem State.setArb_rd (x) : (s.setArb x).rd = s.rd := rfl
@[simp] theorem State.setArb_pf (x) : (s.setArb x).pf = s.pf := rfl
@[simp] theorem State.setArb_trk (x) : (s.setArb x).trk = s.trk := rfl
@[simp] theorem State.setArb_arb (x) : (s.setArb x).arb = x := rfl
@[simp] theorem State.setArb_quiesce (x) : (s.setArb x).quiesce = s.quiesce := rfl
@[simp] theorem State.setArb_flog (x) : (s.setArb x).flog = s.flog := rfl
@[simp] theorem State.setArb_irq (x) : (s.setArb x).irq = s.irq := rfl
@[simp] theorem State.setArb_cfg (x) : (s.setArb x).cfg = s.cfg := rfl
@[simp] theorem State.setArb_port (x) : (s.setArb x).port = s.port := rfl
@[simp] theorem State.setArb_wires (x) : (s.setArb x).wires = s.wires := rfl
@[simp] theorem State.setArb_inReset (x) : (s.setArb x).inReset = s.inReset := rfl
@[simp] theorem State.setArb_pending (x) : (s.setArb x).pending = s.pending := rfl

@[simp] theorem State.setQuiesce_acc (x) : (s.setQuiesce x).acc = s.acc := rfl
@[simp] theorem State.setQuiesce_win (x) : (s.setQuiesce x).win = s.win := rfl
@[simp] theorem State.setQuiesce_buf (x) : (s.setQuiesce x).buf = s.buf := rfl
@[simp] theorem State.setQuiesce_drain (x) : (s.setQuiesce x).drain = s.drain := rfl
@[simp] theorem State.setQuiesce_fence (x) : (s.setQuiesce x).fence = s.fence := rfl
@[simp] theorem State.setQuiesce_rd (x) : (s.setQuiesce x).rd = s.rd := rfl
@[simp] theorem State.setQuiesce_pf (x) : (s.setQuiesce x).pf = s.pf := rfl
@[simp] theorem State.setQuiesce_trk (x) : (s.setQuiesce x).trk = s.trk := rfl
@[simp] theorem State.setQuiesce_arb (x) : (s.setQuiesce x).arb = s.arb := rfl
@[simp] theorem State.setQuiesce_quiesce (x) : (s.setQuiesce x).quiesce = x := rfl
@[simp] theorem State.setQuiesce_flog (x) : (s.setQuiesce x).flog = s.flog := rfl
@[simp] theorem State.setQuiesce_irq (x) : (s.setQuiesce x).irq = s.irq := rfl
@[simp] theorem State.setQuiesce_cfg (x) : (s.setQuiesce x).cfg = s.cfg := rfl
@[simp] theorem State.setQuiesce_port (x) : (s.setQuiesce x).port = s.port := rfl
@[simp] theorem State.setQuiesce_wires (x) : (s.setQuiesce x).wires = s.wires := rfl
@[simp] theorem State.setQuiesce_inReset (x) : (s.setQuiesce x).inReset = s.inReset := rfl
@[simp] theorem State.setQuiesce_pending (x) : (s.setQuiesce x).pending = s.pending := rfl

@[simp] theorem State.setFlog_acc (x) : (s.setFlog x).acc = s.acc := rfl
@[simp] theorem State.setFlog_win (x) : (s.setFlog x).win = s.win := rfl
@[simp] theorem State.setFlog_buf (x) : (s.setFlog x).buf = s.buf := rfl
@[simp] theorem State.setFlog_drain (x) : (s.setFlog x).drain = s.drain := rfl
@[simp] theorem State.setFlog_fence (x) : (s.setFlog x).fence = s.fence := rfl
@[simp] theorem State.setFlog_rd (x) : (s.setFlog x).rd = s.rd := rfl
@[simp] theorem State.setFlog_pf (x) : (s.setFlog x).pf = s.pf := rfl
@[simp] theorem State.setFlog_trk (x) : (s.setFlog x).trk = s.trk := rfl
@[simp] theorem State.setFlog_arb (x) : (s.setFlog x).arb = s.arb := rfl
@[simp] theorem State.setFlog_quiesce (x) : (s.setFlog x).quiesce = s.quiesce := rfl
@[simp] theorem State.setFlog_flog (x) : (s.setFlog x).flog = x := rfl
@[simp] theorem State.setFlog_irq (x) : (s.setFlog x).irq = s.irq := rfl
@[simp] theorem State.setFlog_cfg (x) : (s.setFlog x).cfg = s.cfg := rfl
@[simp] theorem State.setFlog_port (x) : (s.setFlog x).port = s.port := rfl
@[simp] theorem State.setFlog_wires (x) : (s.setFlog x).wires = s.wires := rfl
@[simp] theorem State.setFlog_inReset (x) : (s.setFlog x).inReset = s.inReset := rfl
@[simp] theorem State.setFlog_pending (x) : (s.setFlog x).pending = s.pending := rfl

@[simp] theorem State.setIrq_acc (x) : (s.setIrq x).acc = s.acc := rfl
@[simp] theorem State.setIrq_win (x) : (s.setIrq x).win = s.win := rfl
@[simp] theorem State.setIrq_buf (x) : (s.setIrq x).buf = s.buf := rfl
@[simp] theorem State.setIrq_drain (x) : (s.setIrq x).drain = s.drain := rfl
@[simp] theorem State.setIrq_fence (x) : (s.setIrq x).fence = s.fence := rfl
@[simp] theorem State.setIrq_rd (x) : (s.setIrq x).rd = s.rd := rfl
@[simp] theorem State.setIrq_pf (x) : (s.setIrq x).pf = s.pf := rfl
@[simp] theorem State.setIrq_trk (x) : (s.setIrq x).trk = s.trk := rfl
@[simp] theorem State.setIrq_arb (x) : (s.setIrq x).arb = s.arb := rfl
@[simp] theorem State.setIrq_quiesce (x) : (s.setIrq x).quiesce = s.quiesce := rfl
@[simp] theorem State.setIrq_flog (x) : (s.setIrq x).flog = s.flog := rfl
@[simp] theorem State.setIrq_irq (x) : (s.setIrq x).irq = x := rfl
@[simp] theorem State.setIrq_cfg (x) : (s.setIrq x).cfg = s.cfg := rfl
@[simp] theorem State.setIrq_port (x) : (s.setIrq x).port = s.port := rfl
@[simp] theorem State.setIrq_wires (x) : (s.setIrq x).wires = s.wires := rfl
@[simp] theorem State.setIrq_inReset (x) : (s.setIrq x).inReset = s.inReset := rfl
@[simp] theorem State.setIrq_pending (x) : (s.setIrq x).pending = s.pending := rfl

@[simp] theorem State.setCfg_acc (x) : (s.setCfg x).acc = s.acc := rfl
@[simp] theorem State.setCfg_win (x) : (s.setCfg x).win = s.win := rfl
@[simp] theorem State.setCfg_buf (x) : (s.setCfg x).buf = s.buf := rfl
@[simp] theorem State.setCfg_drain (x) : (s.setCfg x).drain = s.drain := rfl
@[simp] theorem State.setCfg_fence (x) : (s.setCfg x).fence = s.fence := rfl
@[simp] theorem State.setCfg_rd (x) : (s.setCfg x).rd = s.rd := rfl
@[simp] theorem State.setCfg_pf (x) : (s.setCfg x).pf = s.pf := rfl
@[simp] theorem State.setCfg_trk (x) : (s.setCfg x).trk = s.trk := rfl
@[simp] theorem State.setCfg_arb (x) : (s.setCfg x).arb = s.arb := rfl
@[simp] theorem State.setCfg_quiesce (x) : (s.setCfg x).quiesce = s.quiesce := rfl
@[simp] theorem State.setCfg_flog (x) : (s.setCfg x).flog = s.flog := rfl
@[simp] theorem State.setCfg_irq (x) : (s.setCfg x).irq = s.irq := rfl
@[simp] theorem State.setCfg_cfg (x) : (s.setCfg x).cfg = x := rfl
@[simp] theorem State.setCfg_port (x) : (s.setCfg x).port = s.port := rfl
@[simp] theorem State.setCfg_wires (x) : (s.setCfg x).wires = s.wires := rfl
@[simp] theorem State.setCfg_inReset (x) : (s.setCfg x).inReset = s.inReset := rfl
@[simp] theorem State.setCfg_pending (x) : (s.setCfg x).pending = s.pending := rfl

@[simp] theorem State.setPort_acc (x) : (s.setPort x).acc = s.acc := rfl
@[simp] theorem State.setPort_win (x) : (s.setPort x).win = s.win := rfl
@[simp] theorem State.setPort_buf (x) : (s.setPort x).buf = s.buf := rfl
@[simp] theorem State.setPort_drain (x) : (s.setPort x).drain = s.drain := rfl
@[simp] theorem State.setPort_fence (x) : (s.setPort x).fence = s.fence := rfl
@[simp] theorem State.setPort_rd (x) : (s.setPort x).rd = s.rd := rfl
@[simp] theorem State.setPort_pf (x) : (s.setPort x).pf = s.pf := rfl
@[simp] theorem State.setPort_trk (x) : (s.setPort x).trk = s.trk := rfl
@[simp] theorem State.setPort_arb (x) : (s.setPort x).arb = s.arb := rfl
@[simp] theorem State.setPort_quiesce (x) : (s.setPort x).quiesce = s.quiesce := rfl
@[simp] theorem State.setPort_flog (x) : (s.setPort x).flog = s.flog := rfl
@[simp] theorem State.setPort_irq (x) : (s.setPort x).irq = s.irq := rfl
@[simp] theorem State.setPort_cfg (x) : (s.setPort x).cfg = s.cfg := rfl
@[simp] theorem State.setPort_port (x) : (s.setPort x).port = x := rfl
@[simp] theorem State.setPort_wires (x) : (s.setPort x).wires = s.wires := rfl
@[simp] theorem State.setPort_inReset (x) : (s.setPort x).inReset = s.inReset := rfl
@[simp] theorem State.setPort_pending (x) : (s.setPort x).pending = s.pending := rfl

@[simp] theorem State.setWires_acc (x) : (s.setWires x).acc = s.acc := rfl
@[simp] theorem State.setWires_win (x) : (s.setWires x).win = s.win := rfl
@[simp] theorem State.setWires_buf (x) : (s.setWires x).buf = s.buf := rfl
@[simp] theorem State.setWires_drain (x) : (s.setWires x).drain = s.drain := rfl
@[simp] theorem State.setWires_fence (x) : (s.setWires x).fence = s.fence := rfl
@[simp] theorem State.setWires_rd (x) : (s.setWires x).rd = s.rd := rfl
@[simp] theorem State.setWires_pf (x) : (s.setWires x).pf = s.pf := rfl
@[simp] theorem State.setWires_trk (x) : (s.setWires x).trk = s.trk := rfl
@[simp] theorem State.setWires_arb (x) : (s.setWires x).arb = s.arb := rfl
@[simp] theorem State.setWires_quiesce (x) : (s.setWires x).quiesce = s.quiesce := rfl
@[simp] theorem State.setWires_flog (x) : (s.setWires x).flog = s.flog := rfl
@[simp] theorem State.setWires_irq (x) : (s.setWires x).irq = s.irq := rfl
@[simp] theorem State.setWires_cfg (x) : (s.setWires x).cfg = s.cfg := rfl
@[simp] theorem State.setWires_port (x) : (s.setWires x).port = s.port := rfl
@[simp] theorem State.setWires_wires (x) : (s.setWires x).wires = x := rfl
@[simp] theorem State.setWires_inReset (x) : (s.setWires x).inReset = s.inReset := rfl
@[simp] theorem State.setWires_pending (x) : (s.setWires x).pending = s.pending := rfl

@[simp] theorem State.setPending_acc (x) : (s.setPending x).acc = s.acc := rfl
@[simp] theorem State.setPending_win (x) : (s.setPending x).win = s.win := rfl
@[simp] theorem State.setPending_buf (x) : (s.setPending x).buf = s.buf := rfl
@[simp] theorem State.setPending_drain (x) : (s.setPending x).drain = s.drain := rfl
@[simp] theorem State.setPending_fence (x) : (s.setPending x).fence = s.fence := rfl
@[simp] theorem State.setPending_rd (x) : (s.setPending x).rd = s.rd := rfl
@[simp] theorem State.setPending_pf (x) : (s.setPending x).pf = s.pf := rfl
@[simp] theorem State.setPending_trk (x) : (s.setPending x).trk = s.trk := rfl
@[simp] theorem State.setPending_arb (x) : (s.setPending x).arb = s.arb := rfl
@[simp] theorem State.setPending_quiesce (x) : (s.setPending x).quiesce = s.quiesce := rfl
@[simp] theorem State.setPending_flog (x) : (s.setPending x).flog = s.flog := rfl
@[simp] theorem State.setPending_irq (x) : (s.setPending x).irq = s.irq := rfl
@[simp] theorem State.setPending_cfg (x) : (s.setPending x).cfg = s.cfg := rfl
@[simp] theorem State.setPending_port (x) : (s.setPending x).port = s.port := rfl
@[simp] theorem State.setPending_wires (x) : (s.setPending x).wires = s.wires := rfl
@[simp] theorem State.setPending_inReset (x) : (s.setPending x).inReset = s.inReset := rfl
@[simp] theorem State.setPending_pending (x) : (s.setPending x).pending = x := rfl

end Sys2Proof.Machine
end

