-- ==== Sys2Proof/Laws/Frame.lean ====
section
/-! SUPPORT. Frames: which blocks of State an operation may change. A frame lemma of an operation says it once; frames compose by `Frame.trans` and widen by `Frame.mono`, and `Frame.same` gives each untouched field. -/

namespace Sys2Proof.Machine

/-- The fields of State. -/
inductive Block where
  | acc | win | buf | drain | fence | rd | pf | trk | arb | quiesce | flog | irq | cfg | port | wires | inReset | pending
  deriving DecidableEq, Repr

/-- Whether two states agree in a field. -/
def Same (s t : State) : Block → Prop
  | .acc => t.acc = s.acc
  | .win => t.win = s.win
  | .buf => t.buf = s.buf
  | .drain => t.drain = s.drain
  | .fence => t.fence = s.fence
  | .rd => t.rd = s.rd
  | .pf => t.pf = s.pf
  | .trk => t.trk = s.trk
  | .arb => t.arb = s.arb
  | .quiesce => t.quiesce = s.quiesce
  | .flog => t.flog = s.flog
  | .irq => t.irq = s.irq
  | .cfg => t.cfg = s.cfg
  | .port => t.port = s.port
  | .wires => t.wires = s.wires
  | .inReset => t.inReset = s.inReset
  | .pending => t.pending = s.pending

/-- `t` agrees with `s` in every field not listed. -/
def Frame (bs : List Block) (s t : State) : Prop := ∀ b, b ∉ bs → Same s t b

theorem Frame.same {bs : List Block} {s t : State} (h : Frame bs s t) (b : Block) (hb : b ∉ bs := by decide) :
    Same s t b := h b hb

theorem Frame.refl (bs : List Block) (s : State) : Frame bs s s := by
  intro b _; cases b <;> rfl

theorem Frame.trans {bs : List Block} {s t u : State} (h : Frame bs s t) (k : Frame bs t u) : Frame bs s u := by
  intro b hb
  have h1 := h b hb
  have h2 := k b hb
  cases b <;> exact h2.trans h1

theorem Frame.mono {bs cs : List Block} {s t : State} (h : Frame bs s t)
    (hc : ∀ b ∈ bs, b ∈ cs := by decide) : Frame cs s t :=
  fun b hb => h b fun hm => hb (hc b hm)

theorem Frame.foldl {α : Type} {bs : List Block} (f : State → α → State) (hf : ∀ s a, Frame bs s (f s a))
    (l : List α) (s : State) : Frame bs s (l.foldl f s) := by
  induction l generalizing s with
  | nil => exact Frame.refl bs s
  | cons a l ih => exact (hf s a).trans (ih (f s a))

theorem frame_setAcc (s : State) (x) : Frame [.acc] s (s.setAcc x) := by
  intro b hb; cases b <;> first | rfl | exact absurd (by decide) hb

theorem frame_setWin (s : State) (x) : Frame [.win] s (s.setWin x) := by
  intro b hb; cases b <;> first | rfl | exact absurd (by decide) hb

theorem frame_setBuf (s : State) (x) : Frame [.buf] s (s.setBuf x) := by
  intro b hb; cases b <;> first | rfl | exact absurd (by decide) hb

theorem frame_setDrain (s : State) (x) : Frame [.drain] s (s.setDrain x) := by
  intro b hb; cases b <;> first | rfl | exact absurd (by decide) hb

theorem frame_setFence (s : State) (x) : Frame [.fence] s (s.setFence x) := by
  intro b hb; cases b <;> first | rfl | exact absurd (by decide) hb

theorem frame_setRd (s : State) (x) : Frame [.rd] s (s.setRd x) := by
  intro b hb; cases b <;> first | rfl | exact absurd (by decide) hb

theorem frame_setPf (s : State) (x) : Frame [.pf] s (s.setPf x) := by
  intro b hb; cases b <;> first | rfl | exact absurd (by decide) hb

theorem frame_setTrk (s : State) (x) : Frame [.trk] s (s.setTrk x) := by
  intro b hb; cases b <;> first | rfl | exact absurd (by decide) hb

theorem frame_setArb (s : State) (x) : Frame [.arb] s (s.setArb x) := by
  intro b hb; cases b <;> first | rfl | exact absurd (by decide) hb

theorem frame_setQuiesce (s : State) (x) : Frame [.quiesce] s (s.setQuiesce x) := by
  intro b hb; cases b <;> first | rfl | exact absurd (by decide) hb

theorem frame_setFlog (s : State) (x) : Frame [.flog] s (s.setFlog x) := by
  intro b hb; cases b <;> first | rfl | exact absurd (by decide) hb

theorem frame_setIrq (s : State) (x) : Frame [.irq] s (s.setIrq x) := by
  intro b hb; cases b <;> first | rfl | exact absurd (by decide) hb

theorem frame_setCfg (s : State) (x) : Frame [.cfg] s (s.setCfg x) := by
  intro b hb; cases b <;> first | rfl | exact absurd (by decide) hb

theorem frame_setPort (s : State) (x) : Frame [.port] s (s.setPort x) := by
  intro b hb; cases b <;> first | rfl | exact absurd (by decide) hb

theorem frame_setWires (s : State) (x) : Frame [.wires] s (s.setWires x) := by
  intro b hb; cases b <;> first | rfl | exact absurd (by decide) hb

theorem frame_setPending (s : State) (x) : Frame [.pending] s (s.setPending x) := by
  intro b hb; cases b <;> first | rfl | exact absurd (by decide) hb

end Sys2Proof.Machine
end

