-- ==== Sys2Proof/Laws/Frames.lean ====
section
/-! SUPPORT. The frame of each shared operation: the blocks of State it may change. -/

namespace Sys2Proof.Machine

set_option Elab.async false

/-! ### Flags and Ops -/

theorem frame_setIrqBit (b : IrqBit) (s : State) : Frame [.irq] s (setIrqBit b s) := frame_setIrq s _

theorem frame_offerRequestError (k : RequestError) (t : Tag) (s : State) :
    Frame [.acc] s (offerRequestError k t s) := by
  unfold offerRequestError; split
  · exact frame_setAcc s _
  · exact .refl _ s

theorem frame_offerMemoryError (k : MemoryError) (m : MemTag) (s : State) :
    Frame [.trk] s (offerMemoryError k m s) := by
  unfold offerMemoryError; split
  · exact frame_setTrk s _
  · exact .refl _ s

theorem frame_setTag (t : Tag) (x : TagState) (s : State) : Frame [.acc] s (setTag t x s) := frame_setAcc s _

theorem frame_pushResponse (r : Response) (s : State) : Frame [.acc] s (pushResponse r s) :=
  (frame_setAcc s _).trans (frame_setTag _ _ _)

theorem frame_setHead (m : Option IReqMsg) (s : State) : Frame [.acc] s (setHead m s) := frame_setAcc s _

theorem frame_takeHead (s : State) : Frame [.acc, .wires] s (takeHead s) :=
  (frame_setHead none s).mono.trans (frame_setWires _ _).mono

theorem frame_putSlot (i : SlotIx) (x : Option Slot) (s : State) : Frame [.buf] s (putSlot i x s) :=
  frame_setBuf s _

theorem frame_setReadyOrder (c : RequestClass) (l : List OfferedRequest) (s : State) :
    Frame [.arb] s (setReadyOrder c l s) := by
  cases c <;> exact frame_setArb s _

theorem frame_offer (c : RequestClass) (r : OfferedRequest) (s : State) : Frame [.arb] s (offer c r s) :=
  frame_setReadyOrder _ _ _

theorem frame_withdraw (c : RequestClass) (r : OfferedRequest) (s : State) : Frame [.arb] s (withdraw c r s) :=
  frame_setReadyOrder _ _ _

theorem frame_putRead (r : ReadRecord) (s : State) : Frame [.rd] s (putRead r s) := by
  unfold putRead; split <;> exact frame_setRd s _

theorem frame_dropRead (t : Tag) (s : State) : Frame [.rd] s (dropRead t s) := frame_setRd s _

theorem frame_dropBlocker (t : Tag) (s : State) : Frame [.buf] s (dropBlocker t s) := frame_setBuf s _

theorem frame_answerRead (r : Response) (s : State) : Frame [.acc, .buf, .rd] s (answerRead r s) :=
  ((frame_pushResponse r s).mono.trans (frame_dropBlocker _ _).mono).trans (frame_dropRead _ _).mono

theorem frame_addLoss (r : LossRecord) (s : State) : Frame [.flog, .irq] s (addLoss r s) := by
  unfold addLoss; split
  · exact (frame_setFlog s _).mono.trans (frame_setIrqBit _ _).mono
  · exact (frame_setFlog s _).mono.trans (frame_setIrqBit _ _).mono

/-! ### Sealing -/

theorem frame_sealSlot (i : SlotIx) (s : State) : Frame [.buf, .drain] s (sealSlot i s) := by
  unfold sealSlot; split
  · split
    · exact (frame_putSlot i _ s).mono.trans (frame_setDrain _ _).mono
    · exact .refl _ s
  · exact .refl _ s

theorem frame_sealSlots (is : List SlotIx) (s : State) : Frame [.buf, .drain] s (sealSlots is s) :=
  Frame.foldl _ (fun t i => frame_sealSlot i t) is s

theorem frame_sealAll (s : State) : Frame [.buf, .drain] s (sealAll s) := frame_sealSlots _ s

theorem frame_sealLine (l : Line) (s : State) : Frame [.buf, .drain] s (sealLine l s) := by
  unfold sealLine; split
  · exact frame_sealSlot _ s
  · exact .refl _ s

theorem frame_pressureSeal (s : State) : Frame [.buf, .drain] s (pressureSeal s) := by
  unfold pressureSeal; split
  · exact frame_sealSlot _ s
  · exact .refl _ s

theorem frame_beginSlot (i : SlotIx) (s : State) : Frame [.buf, .arb] s (beginSlot i s) := by
  unfold beginSlot; split
  · exact (frame_putSlot i _ s).mono.trans (frame_offer _ _ _).mono
  · exact .refl _ s

theorem frame_drainTest (s : State) : Frame [.buf, .arb] s (drainTest s) := by
  unfold drainTest; split
  · exact .refl _ s
  · split
    · exact frame_beginSlot _ s
    · exact .refl _ s

/-! ### Prefetching -/

theorem frame_putPf (e : PfIx) (x : Option PfEntry) (s : State) : Frame [.pf] s (putPf e x s) := frame_setPf s _

theorem frame_markMru (e : PfIx) (s : State) : Frame [.pf] s (markMru e s) := frame_setPf s _

theorem frame_emptyPf (es : List PfIx) (s : State) : Frame [.pf] s (emptyPf es s) := frame_setPf s _

theorem frame_fallBack (t : Tag) (s : State) : Frame [.rd, .arb] s (fallBack t s) := by
  unfold fallBack; split
  · exact (frame_putRead _ s).mono.trans (frame_offer _ _ _).mono
  · exact .refl _ s

theorem frame_fallBackAll (ts : List Tag) (s : State) : Frame [.rd, .arb] s (fallBackAll ts s) :=
  Frame.foldl _ (fun u t => frame_fallBack t u) ts s

theorem frame_trigger (l : Line) (w : Fin 8) (s : State) : Frame [.pf, .arb] s (trigger l w s) := by
  unfold trigger; split
  · split
    · exact ((frame_putPf _ _ s).mono.trans (frame_markMru _ _).mono).trans (frame_offer _ _ _).mono
    · exact .refl _ s
  · exact .refl _ s

theorem frame_readTrigger (r : ReadRecord) (s : State) : Frame [.pf, .arb] s (readTrigger r s) := by
  unfold readTrigger; split
  · split
    · exact frame_trigger _ _ s
    · exact .refl _ s
  · exact .refl _ s

theorem frame_spoilEntry (e : PfIx) (s : State) : Frame [.pf, .rd, .arb] s (spoilEntry e s) := by
  unfold spoilEntry; split
  · exact .refl _ s
  · split
    · exact (frame_emptyPf _ s).mono
    · exact ((frame_withdraw _ _ s).mono.trans (frame_emptyPf _ _).mono).trans (frame_fallBackAll _ _).mono
    · exact (frame_putPf _ _ s).mono
    · exact .refl _ s

theorem frame_writeReport (l : Line) (s : State) : Frame [.pf, .rd, .arb] s (writeReport l s) := by
  unfold writeReport; split
  · exact frame_spoilEntry _ s
  · exact .refl _ s

theorem frame_invalidate (s : State) : Frame [.pf, .rd, .arb] s (invalidate s) :=
  (Frame.foldl _ (fun u e => frame_spoilEntry e u) allPf s).trans (frame_setPf _ _).mono

/-! ### Reading -/

theorem frame_demandRead (r : ReadRecord) (s : State) : Frame [.rd, .arb] s (demandRead r s) :=
  (frame_putRead _ s).mono.trans (frame_offer _ _ _).mono

theorem frame_joinRead (r : ReadRecord) (e : PfIx) (x : PfEntry) (st : PfState) (s : State) :
    Frame [.pf, .rd] s (joinRead r e x st s) :=
  (frame_putPf _ _ s).mono.trans (frame_putRead _ _).mono

theorem frame_serveRead (r : ReadRecord) (e : PfIx) (d : Lanes) (s : State) :
    Frame [.acc, .buf, .rd, .pf, .arb] s (serveRead r e d s) :=
  ((frame_answerRead _ s).mono.trans (frame_markMru _ _).mono).trans (frame_readTrigger _ _).mono

theorem frame_routeRead (r : ReadRecord) (s : State) : Frame [.acc, .buf, .rd, .pf, .arb] s (routeRead r s) := by
  unfold routeRead; split
  · split
    · exact (frame_demandRead r s).mono
    · split
      · exact (frame_demandRead r s).mono
      · split
        · exact frame_serveRead _ _ _ s
        · exact (frame_joinRead _ _ _ _ s).mono
        · exact (frame_joinRead _ _ _ _ s).mono
        · exact (frame_demandRead r s).mono
  · exact (frame_demandRead r s).mono

theorem frame_releaseRead (i : SlotIx) (t : Tag) (s : State) :
    Frame [.acc, .buf, .rd, .pf, .arb] s (releaseRead i t s) := by
  unfold releaseRead; split
  · exact .refl _ s
  · split
    · split
      · dsimp only
        split
        · exact frame_routeRead _ s
        · exact (frame_putRead _ s).mono
      · exact .refl _ s
    all_goals exact .refl _ s

theorem frame_releaseReads (i : SlotIx) (s : State) : Frame [.acc, .buf, .rd, .pf, .arb] s (releaseReads i s) :=
  Frame.foldl _ (fun u t => frame_releaseRead i t u) _ s

theorem frame_releaseRecord (r : ReadRecord) (s : State) : Frame [.rd, .arb] s (releaseRecord r s) :=
  (frame_putRead _ s).mono.trans (frame_offer _ _ _).mono

theorem frame_directTest (s : State) : Frame [.rd, .arb] s (directTest s) := by
  unfold directTest; split
  · split
    · exact frame_releaseRecord _ s
    · exact .refl _ s
  · exact .refl _ s

/-! ### Completing -/

theorem frame_completeFence (f : FenceRecord) (rest : List FenceRecord) (s : State) :
    Frame [.acc, .fence] s (completeFence f rest s) :=
  (frame_pushResponse _ s).mono.trans (frame_setFence _ _).mono

theorem frame_fenceTestFrom (l : List FenceRecord) (s : State) : Frame [.acc, .fence] s (fenceTestFrom l s) := by
  induction l generalizing s with
  | nil => exact .refl _ s
  | cons f rest ih =>
    unfold fenceTestFrom; split
    · exact .refl _ s
    · exact (frame_completeFence f rest s).trans (ih _)

theorem frame_fenceTest (s : State) : Frame [.acc, .fence] s (fenceTest s) := frame_fenceTestFrom _ s

theorem frame_answerWaiters (x : Slot) (s : State) : Frame [.acc] s (answerWaiters x s) :=
  Frame.foldl _ (fun u _ => frame_pushResponse _ u) _ s

theorem frame_emptySlot (i : SlotIx) (s : State) : Frame [.buf, .drain] s (emptySlot i s) :=
  (frame_setBuf s _).mono.trans (frame_setDrain _ _).mono

/-- The blocks a slot completion may change (R40). -/
def completionBlocks : List Block := [.acc, .buf, .drain, .fence, .rd, .pf, .arb]

theorem frame_completeSlot (i : SlotIx) (x : Slot) (s : State) : Frame completionBlocks s (completeSlot i x s) :=
  ((((frame_answerWaiters x s).mono.trans (frame_emptySlot i _).mono).trans (frame_releaseReads i _).mono).trans
    (frame_fenceTest _).mono).trans (frame_directTest _).mono

theorem frame_completeIfResolved (i : SlotIx) (s : State) : Frame completionBlocks s (completeIfResolved i s) := by
  unfold completeIfResolved; split
  · split
    · exact frame_completeSlot _ _ s
    · exact .refl _ s
  · exact .refl _ s

theorem frame_reportLoss (r : LossRecord) (s : State) : Frame [.flog, .irq, .fence] s (reportLoss r s) :=
  (frame_addLoss r s).mono.trans (frame_setFence _ _).mono

theorem frame_pieceDone (i : SlotIx) (k : Fin 8) (s : State) : Frame completionBlocks s (pieceDone i k s) := by
  unfold pieceDone; split
  · split
    · exact (frame_putSlot _ _ s).mono.trans (frame_completeIfResolved _ _)
    · exact .refl _ s
  · exact .refl _ s

/-- The blocks a lost piece may change (R59). -/
def lossBlocks : List Block := completionBlocks ++ [.flog, .irq]

theorem frame_pieceLost (i : SlotIx) (k : Fin 8) (cause : LossCause) (attempts : Nat) (s : State) :
    Frame lossBlocks s (pieceLost i k cause attempts s) := by
  unfold pieceLost; split
  · split
    · exact ((frame_putSlot _ _ s).mono.trans (frame_reportLoss _ _).mono).trans
        (frame_completeIfResolved _ _).mono
    · exact .refl _ s
  · exact .refl _ s

/-! ### Quiescing -/

theorem frame_setResult (r : CommandResult) (s : State) : Frame [.port] s (setResult r s) := frame_setPort s _

theorem frame_returnToRun (s : State) : Frame [.quiesce] s (returnToRun s) := frame_setQuiesce s _

/-- The blocks the entry to QUIET may change (R155, R161). -/
def quietBlocks : List Block := [.win, .rd, .pf, .arb, .quiesce, .irq, .port]

theorem frame_applyCommit (s : State) : Frame quietBlocks s (applyCommit s) :=
  ((((frame_setWin s _).mono.trans (frame_invalidate _).mono).trans (frame_setQuiesce _ _).mono).trans
    (frame_setResult _ _).mono).trans (frame_setIrqBit _ _).mono

theorem frame_enterQuiet (s : State) : Frame quietBlocks s (enterQuiet s) := by
  unfold enterQuiet
  dsimp only
  have h1 : Frame quietBlocks s (s.setQuiesce { s.quiesce with state := .quiet }) := (frame_setQuiesce s _).mono
  split
  · have h2 := h1.trans (frame_applyCommit _)
    split
    · exact h2.trans (frame_setQuiesce _ _).mono
    · exact h2.trans (frame_returnToRun _).mono
  · split
    · exact h1.trans (frame_setQuiesce _ _).mono
    · exact h1.trans (frame_returnToRun _).mono

theorem frame_quietTest (s : State) : Frame quietBlocks s (quietTest s) := by
  unfold quietTest; split
  · exact frame_enterQuiet s
  · exact .refl _ s

/-- The blocks the quiesce start may change (R153). -/
def quiesceBlocks : List Block := quietBlocks ++ [.buf, .drain]

theorem frame_quiesceStart (s : State) : Frame quiesceBlocks s (quiesceStart s) :=
  (((frame_sealAll s).mono.trans (frame_invalidate _).mono).trans (frame_setQuiesce _ _).mono).trans
    (frame_quietTest _).mono

end Sys2Proof.Machine
end

