-- ==== Sys2Proof/Laws/Access.lean ====
section
/-! SUPPORT. What each named update writes, read back through the model's own readers: tags, slots, prefetch entries, tracker entries, pending records, ready orders, lanes, the fault log. -/

namespace Sys2Proof.Machine

set_option Elab.async false

/-! ### Reading back an update -/

theorem slotAt_putSlot (i j : SlotIx) (x : Option Slot) (s : State) :
    slotAt (putSlot i x s) j = if i = j then x else slotAt s j := by
  simp only [slotAt, putSlot, State.setBuf_buf, Fin.getElem_fin, Vector.getElem_set, Fin.ext_iff]

theorem pfAt_putPf (e f : PfIx) (x : Option PfEntry) (s : State) :
    pfAt (putPf e x s) f = if e = f then x else pfAt s f := by
  simp only [pfAt, putPf, State.setPf_pf, Fin.getElem_fin, Vector.getElem_set, Fin.ext_iff]

theorem entryAt_putEntry (m k : MemTag) (x : TrackerEntry) (s : State) :
    entryAt (putEntry m x s) k = if m = k then x else entryAt s k := by
  simp only [entryAt, putEntry, State.setTrk_trk, Fin.getElem_fin, Vector.getElem_set, Fin.ext_iff]

theorem tagState_setTag (t u : Tag) (x : TagState) (s : State) :
    tagState (setTag t x s) u = if t = u then x else tagState s u := by
  simp only [tagState, setTag, State.setAcc_acc, Fin.getElem_fin, Vector.getElem_set, Fin.ext_iff]

theorem tagState_pushResponse (r : Response) (u : Tag) (s : State) :
    tagState (pushResponse r s) u = if r.tag = u then .responding else tagState s u := by
  simp only [pushResponse, tagState_setTag]
  rfl

@[simp] theorem pushResponse_queue (r : Response) (s : State) :
    (pushResponse r s).acc.queue = s.acc.queue ++ [r] := rfl

@[simp] theorem pushResponse_head (r : Response) (s : State) : (pushResponse r s).acc.head = s.acc.head := rfl

@[simp] theorem pushResponse_capture (r : Response) (s : State) :
    (pushResponse r s).acc.capture = s.acc.capture := rfl

/-! ### Ready orders -/

theorem readyOrder_setReadyOrder (c d : RequestClass) (l : List OfferedRequest) (s : State) :
    readyOrder (setReadyOrder c l s) d = if c = d then l else readyOrder s d := by
  cases c <;> cases d <;> rfl

theorem readyOrder_offer (c d : RequestClass) (r : OfferedRequest) (s : State) :
    readyOrder (offer c r s) d = if c = d then readyOrder s d ++ [r] else readyOrder s d := by
  cases c <;> cases d <;> rfl

theorem readyOrder_withdraw (c d : RequestClass) (r : OfferedRequest) (s : State) :
    readyOrder (withdraw c r s) d = if c = d then (readyOrder s d).filter (· != r) else readyOrder s d := by
  cases c <;> cases d <;> rfl

/-! ### The pending read list -/

theorem readOf_tag {s : State} {t : Tag} {r : ReadRecord} (h : readOf s t = some r) : r.tag = t := by
  simpa using List.find?_some h

theorem readOf_mem {s : State} {t : Tag} {r : ReadRecord} (h : readOf s t = some r) : r ∈ s.rd.reads :=
  List.mem_of_find?_eq_some h

theorem readOf_eq_none {s : State} {t : Tag} : readOf s t = none ↔ ∀ r ∈ s.rd.reads, r.tag ≠ t := by
  simp [readOf, List.find?_eq_none]

/-- A record of a new tag goes to the end of the list. -/
theorem putRead_new {s : State} {r : ReadRecord} (h : readOf s r.tag = none) :
    putRead r s = s.setRd { reads := s.rd.reads ++ [r] } := by
  simp only [putRead, h]

/-- A record of a tag in the list takes the place of that tag's record. -/
theorem putRead_old {s : State} {r q : ReadRecord} (h : readOf s r.tag = some q) :
    putRead r s = s.setRd { reads := s.rd.reads.map fun p => if p.tag == r.tag then r else p } := by
  simp only [putRead, h]

theorem putRead_tags_old {s : State} {r q : ReadRecord} (h : readOf s r.tag = some q) :
    (putRead r s).rd.reads.map (·.tag) = s.rd.reads.map (·.tag) := by
  rw [putRead_old h, State.setRd_rd, List.map_map]
  refine List.map_congr_left fun p _ => ?_
  by_cases hp : p.tag = r.tag <;> simp [hp]

theorem readOf_dropRead (t u : Tag) (s : State) :
    readOf (dropRead t s) u = if t = u then none else readOf s u := by
  simp only [readOf, dropRead, State.setRd_rd, List.find?_filter]
  by_cases h : t = u
  · subst h; simp [List.find?_eq_none]
  · simp only [h, if_false]
    congr 1; funext r
    by_cases hr : r.tag = u
    · subst hr; simp [Ne.symm h]
    · simp [hr]

/-! ### Lanes -/

theorem mergeLanes_get (m : ByteMask) (new old : Lanes) (i : Nat) (h : i < 64) :
    (mergeLanes m new old)[i] = if m.getLsbD i then new[i] else old[i] := by
  simp [mergeLanes, BitVec.getLsbD_eq_getElem h]

theorem takeLanes_get (m : ByteMask) (d : Lanes) (i : Nat) (h : i < 64) :
    (takeLanes m d)[i] = if m.getLsbD i then d[i] else 0 := by
  simp [takeLanes, mergeLanes_get, zeroLanes]

/-! ### The fault log -/

/-- R167: what one add does to the log. -/
theorem addLoss_flog (r : LossRecord) (s : State) :
    (addLoss r s).flog =
      if s.flog.records.length < 8 then { s.flog with records := s.flog.records ++ [r] }
      else { s.flog with overflow := bumpCount s.flog.overflow } := by
  unfold addLoss; split <;> rfl

/-- R167, R173: what one add does to the interrupt status. -/
theorem addLoss_irq (r : LossRecord) (s : State) :
    (addLoss r s).irq =
      if s.flog.records.length < 8 then { s.irq with status := s.irq.status ||| 1 }
      else { s.irq with status := s.irq.status ||| 2 } := by
  unfold addLoss; split <;> rfl

theorem bumpCount_toNat (n : Byte) : (bumpCount n).toNat = min 255 (n.toNat + 1) := by
  revert n; decide +kernel

/-! ### Sealing -/

/-- R28: sealing a FILLING slot. -/
theorem sealSlot_filling {s : State} {i : SlotIx} {x : Slot} (h : slotAt s i = some x) (hf : x.isFilling = true) :
    sealSlot i s = (putSlot i (some { x with phase := .sealed }) s).setDrain
      { queue := s.drain.queue ++ [{ slot := i, age := 0 }] } := by
  simp only [sealSlot, h, hf, if_true]; rfl

/-- A slot that is not FILLING is left as it is. -/
theorem sealSlot_other {s : State} {i : SlotIx} (h : slotFilling s i = false) : sealSlot i s = s := by
  unfold sealSlot; unfold slotFilling at h
  split
  · next x hx => rw [hx] at h; simp only at h; simp [h]
  · rfl

/-! ### Acceptance -/

theorem acceptStopped_eq_false {s : State} (h : acceptStopped s = false) :
    s.quiesce.state = .run ∧ ∀ t, (tagState s t).isDirect = false := by
  simp only [acceptStopped, Bool.or_eq_false_iff, allTags, List.any_eq_false] at h
  refine ⟨by simpa using h.1, fun t => ?_⟩
  simpa using h.2 t (List.mem_finRange t)

end Sys2Proof.Machine
end

