-- ==== Sys2Proof/Laws/EventFrames.lean ====
section
/-! SUPPORT. The frame of what the commands do: acceptance, grants, reports, resets, the port. -/

namespace Sys2Proof.Machine

set_option Elab.async false

/-! ### Acceptance -/

/-- The blocks the examination of a request may change (R2). -/
def requestBlocks : List Block := [.acc, .buf, .drain, .fence, .rd, .pf, .arb, .irq, .wires]

theorem frame_openSlot (i : SlotIx) (r : Request) (c : Classification) (s : State) :
    Frame [.buf] s (openSlot i r c s) := frame_setBuf s _

theorem frame_mergeSlot (i : SlotIx) (r : Request) (s : State) : Frame [.buf] s (mergeSlot i r s) := by
  unfold mergeSlot; split
  · exact frame_putSlot _ _ s
  · exact .refl _ s

theorem frame_addWaiter (i : SlotIx) (t : Tag) (s : State) : Frame [.buf] s (addWaiter i t s) := by
  unfold addWaiter; split
  · exact frame_putSlot _ _ s
  · exact .refl _ s

theorem frame_sealTriggers (i : SlotIx) (r : Request) (c : Classification) (s : State) :
    Frame [.buf, .drain] s (sealTriggers i r c s) := by
  unfold sealTriggers; split
  · exact frame_sealSlot _ s
  · exact .refl _ s

theorem frame_answerWrite (i : SlotIx) (r : Request) (s : State) : Frame [.acc, .buf] s (answerWrite i r s) := by
  unfold answerWrite; split
  · exact (frame_addWaiter i r.tag s).mono.trans (frame_setTag _ _ _).mono
  · exact (frame_pushResponse _ s).mono

theorem frame_finishWrite (i : SlotIx) (r : Request) (c : Classification) (s : State) :
    Frame [.acc, .buf, .drain, .rd, .pf, .arb] s (finishWrite i r c s) :=
  ((frame_answerWrite i r s).mono.trans (frame_sealTriggers _ _ _ _).mono).trans (frame_writeReport _ _).mono

theorem frame_acceptWrite (m : IReqMsg) (r : Request) (c : Classification) (s : State) :
    Frame requestBlocks s (acceptWrite m r c s) := by
  unfold acceptWrite; split
  · exact ((frame_takeHead s).mono.trans (frame_mergeSlot _ _ _).mono).trans (frame_finishWrite _ _ _ _).mono
  · split
    · exact ((frame_takeHead s).mono.trans (frame_openSlot _ _ _ _).mono).trans (frame_finishWrite _ _ _ _).mono
    · exact (frame_pressureSeal s).mono.trans (frame_setHead _ _).mono

theorem frame_forwardRead (i : SlotIx) (r : ReadRecord) (s : State) :
    Frame [.acc, .buf, .rd] s (forwardRead i r s) := frame_answerRead _ s

theorem frame_acceptRead (r : Request) (c : Classification) (s : State) :
    Frame requestBlocks s (acceptRead r c s) := by
  unfold acceptRead
  dsimp only
  have h1 : Frame requestBlocks s (setTag r.tag .read (takeHead s)) :=
    (frame_takeHead s).mono.trans (frame_setTag _ _ _).mono
  split
  · split
    · exact h1.trans (frame_forwardRead _ _ _).mono
    · exact (h1.trans (frame_putRead _ _).mono).trans (frame_sealLine _ _).mono
  · exact h1.trans (frame_routeRead _ _).mono

theorem frame_recordFence (t : Tag) (s : State) : Frame [.buf, .drain, .fence] s (recordFence t s) :=
  (frame_sealAll s).mono.trans (frame_setFence _ _).mono

theorem frame_acceptFence (m : IReqMsg) (r : Request) (s : State) : Frame requestBlocks s (acceptFence m r s) := by
  unfold acceptFence; split
  · exact (((frame_takeHead s).mono.trans (frame_setTag _ _ _).mono).trans (frame_recordFence _ _).mono).trans
      (frame_fenceTest _).mono
  · exact (frame_setHead _ s).mono

theorem frame_acceptDirect (op : AccessOp) (r : Request) (c : Classification) (s : State) :
    Frame requestBlocks s (acceptDirect op r c s) := by
  have h1 : Frame requestBlocks s
      (sealAll (putRead (directRecord op r c) (setTag r.tag (.direct op) (takeHead s)))) :=
    (((frame_takeHead s).mono.trans (frame_setTag _ _ _).mono).trans (frame_putRead _ _).mono).trans
      (frame_sealAll _).mono
  cases op
  · exact h1.trans (frame_directTest _).mono
  · exact (h1.trans (frame_writeReport _ _).mono).trans (frame_directTest _).mono

theorem frame_rejectRequest (r : Request) (s : State) : Frame [.acc, .wires] s (rejectRequest r s) :=
  (frame_takeHead s).trans (frame_pushResponse _ _).mono

theorem frame_dispatchAccess (op : AccessOp) (m : IReqMsg) (r : Request) (s : State) :
    Frame requestBlocks s (dispatchAccess op m r s) := by
  unfold dispatchAccess
  dsimp only
  split
  · exact (frame_rejectRequest r s).mono
  · exact frame_acceptDirect _ r _ s
  · exact frame_acceptWrite m r _ s
  · exact frame_acceptWrite m r _ s
  · exact frame_acceptRead r _ s
  · exact frame_acceptRead r _ s

theorem frame_dropInUse (r : Request) (s : State) : Frame [.acc, .irq, .wires] s (dropInUse r s) :=
  ((frame_takeHead s).mono.trans (frame_offerRequestError _ _ _).mono).trans (frame_setIrqBit _ _).mono

theorem frame_answerMalformed (k : RequestError) (r : Request) (s : State) :
    Frame [.acc, .irq, .wires] s (answerMalformed k r s) :=
  (((frame_takeHead s).mono.trans (frame_pushResponse _ _).mono).trans (frame_offerRequestError _ _ _).mono).trans
    (frame_setIrqBit _ _).mono

theorem frame_dispatch (m : IReqMsg) (r : Request) (s : State) : Frame requestBlocks s (dispatch m r s) := by
  unfold dispatch; split
  · exact frame_acceptFence m r s
  · exact frame_dispatchAccess _ m r s
  · exact frame_dispatchAccess _ m r s
  · exact .refl _ s

theorem frame_examine (m : IReqMsg) (s : State) : Frame requestBlocks s (examine m s) := by
  unfold examine
  dsimp only
  split
  · exact (frame_setHead _ s).mono
  · split
    · exact (frame_dropInUse _ s).mono
    · split
      · exact (frame_answerMalformed _ _ s).mono
      · exact frame_dispatch m _ s

theorem frame_reexamine (s0 s : State) : Frame requestBlocks s (reexamine s0 s) := by
  unfold reexamine; split
  · split
    · exact frame_examine _ s
    · exact .refl _ s
  · exact .refl _ s

theorem frame_finishEvent (s0 s : State) : Frame requestBlocks s (finishEvent s0 s) :=
  (frame_reexamine s0 s).trans (frame_drainTest _).mono

/-! ### Grants -/

theorem frame_putEntry (m : MemTag) (x : TrackerEntry) (s : State) : Frame [.trk] s (putEntry m x s) :=
  frame_setTrk s _

theorem frame_send (m : MemTag) (req : MemRequest) (a : Nat) (s : State) :
    Frame [.trk, .wires] s (send m req a s) :=
  (frame_putEntry m _ s).mono.trans (frame_setWires _ _).mono

theorem frame_sendFirst (req : MemRequest) (s : State) : Frame [.trk, .wires] s (sendFirst req s) := by
  unfold sendFirst; split
  · exact frame_send _ _ _ s
  · exact .refl _ s

/-- The blocks a grant may change (R148). -/
def grantBlocks : List Block := [.buf, .rd, .pf, .trk, .arb, .wires]

theorem frame_grantPiece (i : SlotIx) (x : Slot) (k : Nat) (p : Piece) (s : State) :
    Frame grantBlocks s (grantPiece i x k p s) := by
  unfold grantPiece
  dsimp only
  have h (req : MemRequest) (y : Option Slot) : Frame grantBlocks s (putSlot i y (sendFirst req s)) :=
    (frame_sendFirst req s).mono.trans (frame_putSlot _ _ _).mono
  split
  · exact (h _ _).trans (frame_offer _ _ _).mono
  · exact (h _ _).trans (frame_drainTest _).mono

theorem frame_grantDrainHead (s : State) : Frame grantBlocks s (grantDrainHead s) := by
  unfold grantDrainHead; split
  · exact .refl _ s
  · split
    · exact .refl _ s
    · split
      · exact frame_grantPiece _ _ _ _ s
      · exact .refl _ s

theorem frame_grantRead (t : Tag) (s : State) : Frame grantBlocks s (grantRead t s) := by
  unfold grantRead; split
  · exact ((frame_sendFirst _ s).mono.trans (frame_putRead _ _).mono).trans (frame_readTrigger _ _).mono
  · exact .refl _ s

theorem frame_grantDirectPiece (r : ReadRecord) (d : Lanes) (ps : List Piece) (k : Nat) (p : Piece) (s : State) :
    Frame grantBlocks s (grantDirectPiece r d ps k p s) := by
  unfold grantDirectPiece
  dsimp only
  have h (req : MemRequest) (q : ReadRecord) : Frame grantBlocks s (putRead q (sendFirst req s)) :=
    (frame_sendFirst req s).mono.trans (frame_putRead _ _).mono
  split
  · exact (h _ _).trans (frame_offer _ _ _).mono
  · exact h _ _

theorem frame_grantDirect (s : State) : Frame grantBlocks s (grantDirect s) := by
  unfold grantDirect; split
  · exact .refl _ s
  · split
    · exact (frame_sendFirst _ s).mono
    · split
      · exact .refl _ s
      · split
        · exact frame_grantDirectPiece _ _ _ _ _ s
        · exact .refl _ s

theorem frame_grantPrefetch (e : PfIx) (s : State) : Frame grantBlocks s (grantPrefetch e s) := by
  unfold grantPrefetch; split
  · exact .refl _ s
  · split
    · exact (frame_sendFirst _ s).mono.trans (frame_putPf _ _ _).mono
    all_goals exact .refl _ s

theorem frame_grantReissue (m : MemTag) (s : State) : Frame [.trk, .wires] s (grantReissue m s) := by
  unfold grantReissue; split
  · exact frame_send _ _ _ s
  all_goals exact .refl _ s

theorem frame_grantRequest (r : OfferedRequest) (s : State) : Frame grantBlocks s (grantRequest r s) := by
  cases r
  · exact frame_grantDrainHead s
  · exact frame_grantRead _ s
  · exact frame_grantDirect s
  · exact frame_grantPrefetch _ s
  · exact (frame_grantReissue _ s).mono

theorem frame_grantStep (s : State) : Frame grantBlocks s (grantStep s) := by
  unfold grantStep; split
  · split
    · exact (frame_withdraw _ _ s).mono.trans (frame_grantRequest _ _)
    · exact .refl _ s
  · exact .refl _ s

/-! ### Reports -/

theorem frame_answerJoined (d : Lanes) (s : State) (t : Tag) : Frame [.acc, .buf, .rd] s (answerJoined d s t) := by
  unfold answerJoined; split
  · exact frame_answerRead _ s
  · exact .refl _ s

theorem frame_answerJoins (d : Lanes) (ts : List Tag) (s : State) :
    Frame [.acc, .buf, .rd] s (answerJoins d ts s) :=
  Frame.foldl _ (fun u t => frame_answerJoined d u t) ts s

theorem frame_prefetchArrived (e : PfIx) (x : PfEntry) (joins : List Tag) (d : Lanes) (s : State) :
    Frame completionBlocks s (prefetchArrived e x joins d s) := by
  unfold prefetchArrived
  dsimp only
  have h : Frame completionBlocks s
      (answerJoins d joins (markMru e (putPf e (some { x with state := .valid d }) s))) :=
    ((frame_putPf _ _ s).mono.trans (frame_markMru _ _).mono).trans (frame_answerJoins _ _ _).mono
  split
  · exact h
  · exact h.trans (frame_trigger _ _ _).mono

theorem frame_prefetchDone (e : PfIx) (d : Lanes) (s : State) : Frame completionBlocks s (prefetchDone e d s) := by
  unfold prefetchDone; split
  · exact .refl _ s
  · split
    · exact frame_prefetchArrived _ _ _ _ s
    · exact (frame_answerJoins _ _ s).mono.trans (frame_emptyPf _ _).mono
    · exact .refl _ s
    · exact .refl _ s

theorem frame_prefetchLost (e : PfIx) (s : State) : Frame [.pf, .rd, .arb] s (prefetchLost e s) := by
  unfold prefetchLost; split
  · exact .refl _ s
  · split
    · exact (frame_emptyPf _ s).mono.trans (frame_fallBackAll _ _).mono
    · exact (frame_emptyPf _ s).mono.trans (frame_fallBackAll _ _).mono
    · exact .refl _ s
    · exact .refl _ s

theorem frame_directPieceEnds (r : ReadRecord) (ps : List Piece) (k : Fin 8) (o : PieceOutcome) (s : State) :
    Frame [.acc, .buf, .rd] s (directPieceEnds r ps k o s) := by
  unfold directPieceEnds
  dsimp only
  split
  · exact frame_answerRead _ s
  · exact (frame_putRead _ s).mono

theorem frame_directReport (t : Tag) (k : Fin 8) (f : ReadRecord → Response) (o : PieceOutcome) (s : State) :
    Frame [.acc, .buf, .rd] s (directReport t k f o s) := by
  unfold directReport; split
  · exact .refl _ s
  · split
    · exact frame_answerRead _ s
    · split
      · exact frame_directPieceEnds _ _ _ _ s
      · exact .refl _ s

theorem frame_reportDone (req : MemRequest) (d : Lanes) (s : State) :
    Frame completionBlocks s (reportDone req d s) := by
  unfold reportDone; split
  · exact frame_pieceDone _ _ s
  · exact (frame_answerJoined _ s _).mono
  · exact (frame_directReport _ _ _ _ s).mono
  · exact frame_prefetchDone _ _ s

theorem frame_readLost (t : Tag) (s : State) : Frame [.acc, .buf, .rd] s (readLost t s) := by
  unfold readLost; split
  · exact frame_answerRead _ s
  · exact .refl _ s

theorem frame_reportGiveUp (req : MemRequest) (cause : LossCause) (a : Nat) (s : State) :
    Frame lossBlocks s (reportGiveUp req cause a s) := by
  unfold reportGiveUp; split
  · exact frame_pieceLost _ _ _ _ s
  · exact (frame_readLost _ s).mono
  · exact (frame_directReport _ _ _ _ s).mono
  · exact (frame_prefetchLost _ s).mono

/-- The blocks the end of a report may change: the QUIET test, then the event's own end. -/
def settleBlocks : List Block := quietBlocks ++ requestBlocks

theorem frame_settle (s0 s : State) : Frame settleBlocks s (settle s0 s) :=
  (frame_quietTest s).mono.trans (frame_finishEvent _ _).mono

/-- The blocks a report may change: all but the thresholds, the reset line and the queue. -/
def reportBlocks : List Block :=
  [.acc, .win, .buf, .drain, .fence, .rd, .pf, .trk, .arb, .quiesce, .flog, .irq, .port, .wires]

theorem frame_doneIssued (m : MemTag) (req : MemRequest) (d : Lanes) (s : State) :
    Frame reportBlocks s (doneIssued m req d s) :=
  ((frame_reportDone req d s).mono.trans (frame_putEntry _ _ _).mono).trans (frame_settle _ _).mono

theorem frame_giveUp (m : MemTag) (x : TrackerEntry) (req : MemRequest) (cause : LossCause) (a : Nat) (s : State) :
    Frame reportBlocks s (giveUp m x req cause a s) :=
  ((frame_reportGiveUp req cause a s).mono.trans (frame_putEntry _ _ _).mono).trans (frame_settle _ _).mono

theorem frame_absorb (m : MemTag) (s : State) : Frame [.trk, .irq] s (absorb m s) :=
  ((frame_putEntry m _ s).mono.trans (frame_setTrk _ _).mono).trans (frame_setIrqBit _ _).mono

theorem frame_stray (m : MemTag) (s : State) : Frame [.trk, .irq] s (stray m s) :=
  (frame_offerMemoryError _ _ s).mono.trans (frame_setIrqBit _ _).mono

theorem frame_badResponse (m : MemTag) (s : State) : Frame [.trk, .irq] s (badResponse m s) :=
  (frame_offerMemoryError _ _ s).mono.trans (frame_setIrqBit _ _).mono

theorem frame_takeDone (m : MemTag) (d : Lanes) (s : State) : Frame reportBlocks s (takeDone m d s) := by
  unfold takeDone; split
  · exact frame_doneIssued _ _ _ s
  · exact (frame_absorb _ s).mono
  all_goals exact (frame_stray _ s).mono

theorem frame_deferIssued (m : MemTag) (req : MemRequest) (a : Nat) (s : State) :
    Frame reportBlocks s (deferIssued m req a s) := by
  unfold deferIssued; split
  · exact frame_giveUp _ _ _ _ _ s
  · exact (frame_putEntry _ _ s).mono

theorem frame_takeDefer (m : MemTag) (s : State) : Frame reportBlocks s (takeDefer m s) := by
  unfold takeDefer; split
  · exact frame_deferIssued _ _ _ s
  · exact (frame_absorb _ s).mono
  all_goals exact (frame_stray _ s).mono

theorem frame_takeFault (m : MemTag) (s : State) : Frame reportBlocks s (takeFault m s) := by
  unfold takeFault; split
  · exact frame_giveUp _ _ _ _ _ s
  · exact (frame_absorb _ s).mono
  all_goals exact (frame_stray _ s).mono

theorem frame_responseExpires (m : MemTag) (s : State) : Frame reportBlocks s (responseExpires m s) := by
  unfold responseExpires; split
  · split
    · exact frame_giveUp _ _ _ _ _ s
    · exact .refl _ s
  all_goals exact .refl _ s

theorem frame_backoffExpires (m : MemTag) (s : State) : Frame [.trk, .arb] s (backoffExpires m s) := by
  unfold backoffExpires; split
  · split
    · exact (frame_putEntry _ _ s).mono.trans (frame_offer _ _ _).mono
    · exact .refl _ s
  all_goals exact .refl _ s

theorem frame_reclaimExpires (m : MemTag) (s : State) : Frame [.trk] s (reclaimExpires m s) := by
  unfold reclaimExpires; split
  · split
    · exact frame_putEntry _ _ s
    · exact .refl _ s
  all_goals exact .refl _ s

theorem frame_holdExpires (i : SlotIx) (s : State) : Frame [.buf, .drain, .arb] s (holdExpires i s) := by
  unfold holdExpires; split
  · split
    · split
      · exact (frame_sealSlot i s).mono.trans (frame_drainTest _).mono
      · exact .refl _ s
    all_goals exact .refl _ s
  · exact .refl _ s

theorem frame_countTick (s : State) : Frame [.buf, .drain, .trk] s (countTick s) :=
  ((frame_setDrain s _).mono.trans (frame_setBuf _ _).mono).trans (frame_setTrk _ _).mono

theorem frame_entryExpires (m : MemTag) (s : State) : Frame reportBlocks s (entryExpires m s) := by
  unfold entryExpires; split
  · exact frame_responseExpires m s
  · exact (frame_backoffExpires m s).mono
  · exact (frame_reclaimExpires m s).mono
  · exact .refl _ s
  · exact .refl _ s

theorem frame_expireAll (is : List SlotIx) (ms : List MemTag) (s : State) : Frame reportBlocks s (expireAll is ms s) :=
  (Frame.foldl _ (fun u i => (frame_holdExpires i u).mono) is s).trans
    (Frame.foldl _ (fun u m => frame_entryExpires m u) ms _)

theorem frame_tick (s : State) : Frame reportBlocks s (tick s) :=
  (frame_countTick s).mono.trans (frame_expireAll _ _ _)

/-! ### Resets and the port -/

theorem frame_takeDpReset (s : State) : Frame [.fence, .pf, .arb, .port] s (takeDpReset s) := by
  unfold takeDpReset; split
  · exact (((frame_setResult _ s).mono.trans (frame_setFence _ _).mono).trans (frame_setPf _ _).mono).trans
      (frame_setArb _ _).mono
  · exact (frame_setResult _ s).mono

theorem frame_answerReset (s : State) (t : Tag) : Frame [.acc] s (answerReset s t) := by
  unfold answerReset; split
  · exact frame_pushResponse _ s
  · exact .refl _ s

theorem frame_discardSlot (s : State) (i : SlotIx) : Frame [.flog, .irq] s (discardSlot s i) := by
  unfold discardSlot; split
  · exact frame_addLoss _ s
  · exact .refl _ s

theorem frame_discardSlots (s : State) : Frame [.buf, .flog, .irq] s (discardSlots s) :=
  ((Frame.foldl _ frame_discardSlot _ s).mono).trans (frame_setBuf _ _).mono

theorem frame_forceUnits (s : State) : Frame [.drain, .fence, .rd, .pf] s (forceUnits s) :=
  (((frame_setDrain s _).mono.trans (frame_setFence _ _).mono).trans (frame_setRd _ _).mono).trans
    (frame_setPf _ _).mono

theorem frame_forceQuiesce (s : State) : Frame [.quiesce, .port] s (forceQuiesce s) := by
  unfold forceQuiesce
  dsimp only
  split
  · exact (frame_setResult _ s).mono.trans (frame_setQuiesce _ _).mono
  · exact (frame_setQuiesce s _).mono

theorem frame_takeDpResetForce (s : State) : Frame reportBlocks s (takeDpResetForce s) := by
  have h1 : Frame reportBlocks s (discardSlots (answerAllReset (setResult .done s))) :=
    ((frame_setResult _ s).mono.trans (Frame.foldl _ frame_answerReset allTags _).mono).trans
      (frame_discardSlots _).mono
  exact ((((h1.trans (frame_forceUnits _).mono).trans (frame_setArb _ _).mono).trans (frame_setTrk _ _).mono).trans
    (frame_forceQuiesce _).mono).trans (frame_finishEvent _ _).mono

theorem frame_takeCommit (s : State) : Frame reportBlocks s (takeCommit s) := by
  unfold takeCommit; split
  · exact (frame_setResult _ s).mono
  · split
    · unfold startCommit
      dsimp only
      have h1 : Frame reportBlocks s
          (setResult .pending (s.setQuiesce { s.quiesce with commitPending := true })) :=
        (frame_setQuiesce s _).mono.trans (frame_setResult _ _).mono
      split
      · exact (h1.trans (frame_quiesceStart _).mono).trans (frame_finishEvent _ _).mono
      · exact h1
      · exact h1.trans (frame_applyCommit _).mono
    · exact (frame_setResult _ s).mono

theorem frame_takeLogPop (s : State) : Frame [.flog, .port] s (takeLogPop s) := by
  unfold takeLogPop; split
  · exact (frame_setResult _ s).mono
  · exact (frame_setFlog s _).mono.trans (frame_setResult _ _).mono

theorem frame_takeLogClearOvf (s : State) : Frame [.flog, .port] s (takeLogClearOvf s) :=
  (frame_setFlog s _).mono.trans (frame_setResult _ _).mono

theorem frame_takeProtoClear (s : State) : Frame [.acc, .trk, .port] s (takeProtoClear s) :=
  ((frame_setAcc s _).mono.trans (frame_setTrk _ _).mono).trans (frame_setResult _ _).mono

theorem frame_runCommand (c : Byte) (s : State) : Frame reportBlocks s (runCommand c s) := by
  unfold runCommand; split
  · exact frame_takeCommit s
  · exact (frame_takeDpReset s).mono
  · exact frame_takeDpResetForce s
  · exact (frame_takeLogPop s).mono
  · exact (frame_takeLogClearOvf s).mono
  · exact (frame_takeProtoClear s).mono
  · exact (frame_setResult _ s).mono

/-- The blocks a byte written by the port may change: all but the reset line and the queue. -/
def portBlocks : List Block := .cfg :: reportBlocks

theorem frame_takeRange (lo hi : Nat) (v : Byte) (put : State → State) (s : State)
    (h : Frame portBlocks s (put s)) : Frame portBlocks s (takeRange lo hi v put s).2 := by
  unfold takeRange; split
  · exact h
  · exact .refl _ s

theorem frame_takeTimeoutHigh (v : Byte) (s : State) : Frame [.port, .cfg] s (takeTimeoutHigh v s).2 := by
  unfold takeTimeoutHigh
  dsimp only
  split
  · exact (frame_setPort s _).mono
  · exact (frame_setPort s _).mono.trans (frame_setCfg _ _).mono

theorem frame_takeStaged (i v : Byte) (s : State) : Frame [.win] s (takeStaged i v s).2 := by
  unfold takeStaged; split
  · exact .refl _ s
  · exact frame_setWin s _

theorem frame_writeReg (i v : Byte) (s : State) : Frame portBlocks s (writeReg i v s).2 := by
  unfold writeReg; split
  · exact (frame_takeStaged i v s).mono
  · split
    · exact frame_takeRange _ _ _ _ s (frame_setCfg s _).mono
    · exact frame_takeRange _ _ _ _ s (frame_setCfg s _).mono
    · exact frame_takeRange _ _ _ _ s (frame_setCfg s _).mono
    · exact frame_takeRange _ _ _ _ s (frame_setCfg s _).mono
    · exact (frame_setPort s _).mono
    · exact (frame_takeTimeoutHigh v s).mono
    · exact (frame_setWin s _).mono
    · exact (frame_runCommand v s).mono
    · exact (frame_setIrq s _).mono
    · exact (frame_setIrq s _).mono
    · exact .refl _ s

theorem frame_noAck (s : State) : Frame [.wires] s (noAck s) := frame_setWires s _

theorem frame_ackByte (s : State) : Frame [.port, .wires] s (ackByte s) :=
  (frame_setPort s _).mono.trans (frame_setWires _ _).mono

theorem frame_nackByte (s : State) : Frame [.port, .wires] s (nackByte s) :=
  (frame_setPort s _).mono.trans (frame_noAck _).mono

theorem frame_takeByte (v : Byte) (s : State) : Frame portBlocks s (takeByte v s) := by
  unfold takeByte
  dsimp only
  split
  · exact (frame_writeReg _ v s).trans (frame_ackByte _).mono
  · exact (frame_writeReg _ v s).trans (frame_nackByte _).mono

theorem frame_dataByte (v : Byte) (s : State) : Frame portBlocks s (dataByte v s) := by
  unfold dataByte; split
  · exact frame_takeByte v s
  all_goals exact (frame_noAck s).mono

theorem frame_ignoreAddress (s : State) : Frame [.port, .wires] s (ignoreAddress s) :=
  (frame_setPort s _).mono.trans (frame_noAck _).mono

theorem frame_beginWrite (i : Byte) (s : State) : Frame [.port] s (beginWrite i s) := frame_setPort s _

theorem frame_pointerWrite (a : BitVec 7) (i : Byte) (s : State) : Frame [.port, .wires] s (pointerWrite a i s) := by
  unfold pointerWrite; split
  · exact (frame_beginWrite i s).mono.trans (frame_setWires _ _).mono
  · exact frame_ignoreAddress s

theorem frame_portWrite (f : Bool) (i v : Byte) (s : State) : Frame portBlocks s (portWrite f i v s) := by
  unfold portWrite; split
  · exact frame_dataByte v s
  · exact (frame_beginWrite i s).mono.trans (frame_dataByte v _)

theorem frame_readByte (old : Option (Option LossRecord)) (more : Bool) (s : State) :
    Frame [.port, .wires] s (readByte old more s) :=
  (frame_setPort s _).mono.trans (frame_setWires _ _).mono

theorem frame_readNext (more : Bool) (s : State) : Frame [.port, .wires] s (readNext more s) := by
  unfold readNext; split
  · exact frame_readByte _ _ s
  all_goals exact (frame_noAck s).mono

theorem frame_portRead (a : Option (BitVec 7)) (more : Bool) (s : State) :
    Frame [.port, .wires] s (portRead a more s) := by
  unfold portRead; split
  · split
    · exact frame_readByte _ _ s
    · exact frame_ignoreAddress s
  · exact frame_readNext more s

theorem frame_present (msg : Option IReqMsg) (s : State) : Frame requestBlocks s (present msg s) := by
  unfold present; split
  · exact (frame_examine _ s).trans (frame_drainTest _).mono
  · exact (frame_setHead none s).mono

theorem frame_sendResponse (s : State) : Frame [.acc, .wires] s (sendResponse s) := by
  unfold sendResponse; split
  · exact .refl _ s
  · exact ((frame_setAcc s _).mono.trans (frame_setTag _ _ _).mono).trans (frame_setWires _ _).mono

theorem frame_drainRises (s : State) : Frame reportBlocks s (drainRises s) := by
  unfold drainRises
  dsimp only
  have h : Frame reportBlocks s (s.setQuiesce { s.quiesce with drainHeld := true }) := (frame_setQuiesce s _).mono
  split
  · exact (h.trans (frame_quiesceStart _).mono).trans (frame_finishEvent _ _).mono
  · exact h
  · exact h

theorem frame_drainFalls (s : State) : Frame reportBlocks s (drainFalls s) := by
  unfold drainFalls
  dsimp only
  have h : Frame reportBlocks s (s.setQuiesce { s.quiesce with drainHeld := false }) := (frame_setQuiesce s _).mono
  split
  · exact h
  · split
    · exact h
    · exact (h.trans (frame_returnToRun _).mono).trans (frame_finishEvent _ _).mono
  · exact (h.trans (frame_returnToRun _).mono).trans (frame_finishEvent _ _).mono

end Sys2Proof.Machine
end

