-- ==== Sys2Proof/Laws/Events.lean ====
section
/-! SUPPORT. What a timer's expiry, a tick and a management write come to, case by case. -/

namespace Sys2Proof.Machine

set_option Elab.async false

/-! ### Expiries and the tick -/

theorem expiring_iff (n : Nat) : expiring n = true ↔ n ≤ 1 := by simp [expiring]

theorem expiring_eq_false (n : Nat) : expiring n = false ↔ 1 < n := by simp [expiring]

/-- R27: the hold timer of a FILLING slot expires in its last tick. -/
theorem holdExpires_due {s : State} {i : SlotIx} {x : Slot} {n : Nat} (h : slotAt s i = some x)
    (hp : x.phase = .filling (some n)) (hn : n ≤ 1) : holdExpires i s = drainTest (sealSlot i s) := by
  simp [holdExpires, h, hp, expiring, hn]

/-- No hold timer expires before its last tick. -/
theorem holdExpires_early {s : State} {i : SlotIx} (h : holdDue s i = false) : holdExpires i s = s := by
  unfold holdDue at h; unfold holdExpires
  split
  · next x hx =>
    simp only [hx] at h
    split
    · next n hn => simp only [hn] at h; simp [h]
    all_goals rfl
  · rfl

/-- R126: the response timer of an ISSUED entry expires in its last tick. -/
theorem responseExpires_due {s : State} {m : MemTag} {req : MemRequest} {a n : Nat}
    (h : entryAt s m = .issued req a n) (hn : n ≤ 1) :
    responseExpires m s = giveUp m (.late (reclaimTicks s)) req .timeout a s := by
  simp [responseExpires, h, expiring, hn]

/-- R124: the backoff timer of a waiting entry expires in its last tick. -/
theorem backoffExpires_due {s : State} {m : MemTag} {req : MemRequest} {a n : Nat}
    (h : entryAt s m = .backoffWaiting req a n) (hn : n ≤ 1) :
    backoffExpires m s = offer req.origin.cls (.reissue m) (putEntry m (.backoffOffered req a) s) := by
  simp [backoffExpires, h, expiring, hn]

/-- R130: the reclaim timer of a LATE entry expires in its last tick. -/
theorem reclaimExpires_due {s : State} {m : MemTag} {n : Nat} (h : entryAt s m = .late n) (hn : n ≤ 1) :
    reclaimExpires m s = putEntry m .free s := by
  simp [reclaimExpires, h, expiring, hn]

/-- No timer of an entry expires before its last tick. -/
theorem entryExpires_early {s : State} {m : MemTag} (h : (entryAt s m).due = false) :
    responseExpires m s = s ∧ backoffExpires m s = s ∧ reclaimExpires m s = s := by
  unfold TrackerEntry.due at h
  unfold responseExpires backoffExpires reclaimExpires
  cases hm : entryAt s m <;> simp_all

/-- A tick at which no timer is in its last tick only counts. -/
theorem tick_count {s : State} (hs : ∀ i, holdDue s i = false) (hm : ∀ m, (entryAt s m).due = false) :
    tick s = countTick s := by
  have h1 : allSlots.filter (holdDue s) = [] := by simp [hs]
  have h2 : (allMemTags.filter fun m => (entryAt s m).due) = [] := by simp [hm]
  simp only [tick, h1, h2, expireAll, List.foldl_nil]

/-! ### Management writes -/

/-- A data byte that lands at index `i` is written there, by itself or at the start of its transfer. -/
theorem portWrite_lands {s : State} {f : Bool} {i : Byte} (v : Byte) (h : Lands s f i) :
    portWrite f i v s = takeByte v (beginWrite i s) := by
  unfold portWrite
  rcases h with rfl | ⟨ht, hi⟩
  · rfl
  · have e : beginWrite i s = s := by
      unfold beginWrite State.setPort; rw [← hi, ← ht]
    cases f
    · rfl
    · rw [e]; simp [dataByte, ht]

/-- R189: which data byte follows in a transfer does not depend on the register its command names. -/
theorem portWrite_follows (s : State) (i j v : Byte) : portWrite true i v s = portWrite true j v s := rfl

/-- R190: after a refused byte a further one is refused, and nothing else happens. -/
theorem portWrite_refused {s : State} (i v : Byte) (h : s.port.transfer = .refused) :
    portWrite true i v s = noAck s := by
  simp [portWrite, dataByte, h]

end Sys2Proof.Machine
end

