-- ==== Sys2Proof/Laws/PerInstr.lean ====
section
/-! SUPPORT. Statements made per command. PortRoundTrip: a well-formed management write is read back from its byte (R190, R192, R193). -/

namespace Sys2Proof.Laws.PortRoundTrip

set_option Elab.async false

/-- The byte of a well-formed management write decodes to that command. -/
def Statement (c : Instr) : Prop := c.wf = true → ∀ b, portByte c = some b → portCommand b = c

theorem isStagedIndex_own : isStagedIndex 0x10 = false ∧ isStagedIndex 0x18 = false ∧ isStagedIndex 0x19 = false ∧
    isStagedIndex 0x0C = false ∧ isStagedIndex 0x0D = false := by decide

theorem requestPresented (msg : Option IReqMsg) : Statement (.requestPresented msg) := by
  intro _ b hb; cases hb

theorem responseSent : Statement .responseSent := by
  intro _ b hb; cases hb

theorem holdTimerExpiry (i : SlotIx) : Statement (.holdTimerExpiry i) := by
  intro _ b hb; cases hb

theorem mreqReadyRise : Statement .mreqReadyRise := by
  intro _ b hb; cases hb

theorem mreqReadyFall : Statement .mreqReadyFall := by
  intro _ b hb; cases hb

theorem grant : Statement .grant := by
  intro _ b hb; cases hb

theorem done (m : MemTag) (d : Lanes) : Statement (.done m d) := by
  intro _ b hb; cases hb

theorem defer (m : MemTag) : Statement (.defer m) := by
  intro _ b hb; cases hb

theorem fault (m : MemTag) : Statement (.fault m) := by
  intro _ b hb; cases hb

theorem badResp (m : MemTag) : Statement (.badResp m) := by
  intro _ b hb; cases hb

theorem responseTimerExpiry (m : MemTag) : Statement (.responseTimerExpiry m) := by
  intro _ b hb; cases hb

theorem backoffTimerExpiry (m : MemTag) : Statement (.backoffTimerExpiry m) := by
  intro _ b hb; cases hb

theorem reclaimTimerExpiry (m : MemTag) : Statement (.reclaimTimerExpiry m) := by
  intro _ b hb; cases hb

theorem drnReqRise : Statement .drnReqRise := by
  intro _ b hb; cases hb

theorem drnReqFall : Statement .drnReqFall := by
  intro _ b hb; cases hb

theorem commit (f : Bool) : Statement (.commit f) := by
  intro _ b hb; cases hb; rfl

theorem dpReset (f : Bool) : Statement (.dpReset f) := by
  intro _ b hb; cases hb; rfl

theorem dpResetForce (f : Bool) : Statement (.dpResetForce f) := by
  intro _ b hb; cases hb; rfl

theorem logPop (f : Bool) : Statement (.logPop f) := by
  intro _ b hb; cases hb; rfl

theorem logClearOvf (f : Bool) : Statement (.logClearOvf f) := by
  intro _ b hb; cases hb; rfl

theorem protoClear (f : Bool) : Statement (.protoClear f) := by
  intro _ b hb; cases hb; rfl

theorem unknownCommand (c : Byte) (f : Bool) : Statement (.unknownCommand c f) := by
  intro h b hb; cases hb
  simp only [Instr.wf, isCommandCode, Bool.not_eq_true', Bool.and_eq_false_iff, decide_eq_false_iff_not] at h
  show commandOfCode c f = _
  unfold commandOfCode
  split <;> first | rfl | omega

theorem interruptStatusWrite (v : Byte) (f : Bool) : Statement (.interruptStatusWrite v f) := by
  intro _ b hb; cases hb; rfl

theorem interruptMaskWrite (v : Byte) (f : Bool) : Statement (.interruptMaskWrite v f) := by
  intro _ b hb; cases hb; rfl

theorem responseTimeoutLowWrite (v : Byte) (f : Bool) : Statement (.responseTimeoutLowWrite v f) := by
  intro _ b hb; cases hb; rfl

theorem responseTimeoutHighWrite (v : Byte) (f : Bool) : Statement (.responseTimeoutHighWrite v f) := by
  intro _ b hb; cases hb; rfl

theorem stagedTableWrite (i : Byte) (v : Byte) (f : Bool) : Statement (.stagedTableWrite i v f) := by
  intro h b hb; cases hb
  simp only [Instr.wf] at h
  have own := isStagedIndex_own
  simp only [portCommand, beq_iff_eq]
  split
  · rename_i e; rw [e, own.1] at h; exact absurd h (by decide)
  · split
    · rename_i e; rw [e, own.2.1] at h; exact absurd h (by decide)
    · split
      · rename_i e; rw [e, own.2.2.1] at h; exact absurd h (by decide)
      · split
        · rename_i e; rw [e, own.2.2.2.1] at h; exact absurd h (by decide)
        · split
          · rename_i e; rw [e, own.2.2.2.2] at h; exact absurd h (by decide)
          · rfl

theorem registerWrite (i : Byte) (v : Byte) (f : Bool) : Statement (.registerWrite i v f) := by
  intro h b hb; cases hb
  simp only [Instr.wf, hasOwnRow, Bool.and_eq_true, Bool.not_eq_true', Bool.or_eq_false_iff, beq_eq_false_iff_ne] at h
  obtain ⟨h1, ⟨⟨⟨h2, h3⟩, h4⟩, h5⟩, h6⟩ := h
  simp only [portCommand, beq_iff_eq, h1]
  rw [if_neg h4, if_neg h5, if_neg h6, if_neg h2, if_neg h3]
  rfl

theorem indexPointerWrite (a : BitVec 7) (i : Byte) : Statement (.indexPointerWrite a i) := by
  intro _ b hb; cases hb

theorem logHeadRead (a : Option (BitVec 7)) (more : Bool) : Statement (.logHeadRead a more) := by
  intro _ b hb; cases hb

theorem powerOnReset (h : Bool) (st : BitVec 2) (d : Bool) : Statement (.powerOnReset h st d) := by
  intro _ b hb; cases hb

theorem ageCountTick : Statement .ageCountTick := by
  intro _ b hb; cases hb

theorem readTransfer (a : Option (BitVec 7)) (more : Bool) : Statement (.readTransfer a more) := by
  intro _ b hb; cases hb

end Sys2Proof.Laws.PortRoundTrip
end

