-- ==== Sys2Proof/Tests/Slice0.lean ====
section
/-! SUPPORT. Tests of the model: well-formedness, the messages' bits, each command on a small state, and for each obligation a state and operands that meet its hypotheses. -/

namespace Sys2Proof.Tests

set_option Elab.async false

open Sys2Proof Sys2Proof.Machine

/-! ### Well-formedness -/

theorem test_wf_unknownCommand : (Instr.unknownCommand 0x07 false).wf = true ∧ (Instr.unknownCommand 0x00 false).wf = true := by
  decide
theorem test_illformed_unknownCommand :
    (Instr.unknownCommand 0x01 false).wf = false ∧ (Instr.unknownCommand 0x06 true).wf = false := by decide
theorem test_wf_stagedTableWrite :
    (Instr.stagedTableWrite 0x0E 0 false).wf = true ∧ (Instr.stagedTableWrite 0xC9 0 true).wf = true := by decide
theorem test_illformed_stagedTableWrite :
    (Instr.stagedTableWrite 0x5A 0 false).wf = false ∧ (Instr.stagedTableWrite 0xD0 0 false).wf = false ∧
      (Instr.stagedTableWrite 0x0F 0 false).wf = false := by decide
theorem test_wf_registerWrite :
    (Instr.registerWrite 0x08 0 false).wf = true ∧ (Instr.registerWrite 0x5A 0 false).wf = true := by decide
theorem test_illformed_registerWrite_staged : (Instr.registerWrite 0x50 0 false).wf = false := by decide
theorem test_illformed_registerWrite_ownRow :
    (Instr.registerWrite 0x10 0 false).wf = false ∧ (Instr.registerWrite 0x0C 0 false).wf = false := by decide

/-! ### Messages, bit by bit -/

/-- R183: READ of 8 bytes at 40h, tag 3: address 40h, size 8, confirm 0, tag 3, operation 000b. -/
theorem test_request_read_bits :
    (decodeRequest { hdr := 0x0000000040#40 ++ 8#7 ++ 0#1 ++ 3#5 ++ 0#3, data := zeroLanes }).op = .read ∧
      (decodeRequest { hdr := 0x0000000040#40 ++ 8#7 ++ 0#1 ++ 3#5 ++ 0#3, data := zeroLanes }).tag = 3 ∧
      (decodeRequest { hdr := 0x0000000040#40 ++ 8#7 ++ 0#1 ++ 3#5 ++ 0#3, data := zeroLanes }).span =
        { addr := 0x40, size := 8 } := by decide +kernel

/-- R184: WACK ERROR REJECTED for tag 3: reason 00b, status 1, tag 3, kind 01b. -/
theorem test_response_wack_bits : (Response.wackError 3 .rejected).header = 0b00_1_00011_01#10 := by decide

/-- R184: FACK LOSS for tag 31. -/
theorem test_response_fack_bits : (Response.fack 31 true).header = 0b00_1_11111_10#10 := by decide

/-- R185: MRD of 64 bytes at 1000h under tag 5. -/
theorem test_mrd_bits :
    memHeader 5 (.mrd { addr := 0x1000, size := 64 }) = 0#4 ++ 64#7 ++ 0x0000001000#40 ++ 5#4 ++ 0#1 := by decide

/-- R185: MWR of one masked granule under tag 2. -/
theorem test_mwr_bits :
    memHeader 2 (.mwr 0x48 (.masked 0x0F) zeroLanes) = 0x0F#8 ++ 4#3 ++ 0x0000000048#40 ++ 2#4 ++ 1#1 := by decide

/-- R186, R188: kind 00b DONE, 01b DEFER, 10b FAULT, 11b undefined; tag in bits 5:2. -/
theorem test_mrsp_bits :
    mrspCommand 0b0101_00#6 zeroLanes = .done 5 zeroLanes ∧ mrspCommand 0b0000_01#6 zeroLanes = .defer 0 ∧
      mrspCommand 0b1111_10#6 zeroLanes = .fault 15 ∧ mrspCommand 0b0001_11#6 zeroLanes = .badResp 1 := by
  decide +kernel

/-! ### Small states -/

/-- The next state of a command. -/
def after (c : Instr) (s : State) : State :=
  match exec c s with
  | .next t => t
  | .fault _ => s
  | .refused _ => s

/-- The state after reset with one window over page 0, which decides for every request below. -/
def base (cls : AccessClass) (pf : Bool) (hold : Byte) : State :=
  let w : WindowRecord := { enable := true, base := 0, limit := 0, cls := cls, prefetch := pf, hold := hold }
  { State.reset with
    win := { State.reset.win with active := { recs := State.reset.win.active.recs.set 0 w, dflt := .direct } } }

/-- A request on line 0. -/
def ask (op : RequestOp) (tag : Tag) (confirm : Bool) (off : Nat) (size : Nat) : Request :=
  { op := op, tag := tag, confirm := confirm, span := { addr := BitVec.ofNat 40 off, size := size }, data := zeroLanes }

/-- Its message. -/
def msg (r : Request) : IReqMsg := encodeRequest r

/-- A slot that holds bytes 0 to 7 of line 0. -/
def slot (cls : AccessClass) (ph : SlotPhase) : Slot :=
  { line := 0, valid := 0xFF, data := zeroLanes, window := .win 0, cls := cls, epoch := 0, phase := ph
    waiters := [], blockers := [], lost := false }

/-- A state whose only slot is slot 0. -/
def withSlot (x : Slot) (s : State) : State :=
  { s with
    buf := { slots := s.buf.slots.set 0 (some x), ages := [0] }
    drain := { queue := if x.isFilling then [] else [{ slot := 0, age := 0 }] } }

/-- A pending read of bytes 0 to 7 of line 0. -/
def pendingRead (t : Tag) (st : ReadState) : ReadRecord :=
  { tag := t, access := .read, span := { addr := 0, size := 8 }, window := .win 0, cls := .combine, prefetch := false
    state := st }

/-- A state with one pending read, and its tag in READ. -/
def withRead (r : ReadRecord) (s : State) : State :=
  { s with acc := { s.acc with tags := s.acc.tags.set r.tag .read }, rd := { reads := [r] } }

/-- A state whose tracker entry 0 is `x`. -/
def withEntry (x : TrackerEntry) (s : State) : State :=
  { s with trk := { s.trk with entries := s.trk.entries.set 0 x } }

/-- A state whose prefetch entry 0 holds line 0 in state `st`. -/
def withPf (st : PfState) (s : State) : State :=
  { s with pf := { s.pf with entries := s.pf.entries.set 0 (some { line := 0, window := 0, state := st }) } }

/-- A state with a quiesce controller. -/
def withQuiesce (q : QuiesceState) (commit drain ack : Bool) (s : State) : State :=
  { s with quiesce := { state := q, commitPending := commit, drainHeld := drain, drnAck := ack } }

/-- A state with MREQ_READY high. -/
def ready (s : State) : State := { s with arb := { s.arb with mreqReady := true } }

/-- A state with `n` fences outstanding, of epochs 0, 1, and so on, and their tags in FENCE. -/
def withFences (n : Nat) (s : State) : State :=
  { s with
    acc := { s.acc with tags := Vector.ofFn fun t => if t.val < n then .fence else .free }
    fence :=
      { epoch := BitVec.ofNat 8 n, loss := false
        list := (List.range n).map fun k => { tag := Fin.ofNat 32 k, epoch := BitVec.ofNat 8 k } } }

/-- A loss record. -/
def loss : LossRecord :=
  { cause := .memFault, line := 1, mask := 0xFF, window := .default, cls := .combine, epoch := 7, attempts := 2 }

/-- A drain piece: the first granule of a line, whole. -/
def piece (o : PieceOutcome) : Piece := { start := 0, shape := .burst .one, outcome := o }

/-- The MWR of that piece, for slot 0. -/
def pieceReq : MemRequest := { origin := .drain 0 0, op := pieceWrite 0 zeroLanes (piece .waiting) }

/-- The MRD of `pendingRead 1`. -/
def readReq : MemRequest := { origin := .demand 1, op := .mrd { addr := 0, size := 8 } }

/-! ### Commands -/

theorem test_requestPresented_open :
    (after (.requestPresented (some (msg (ask .write 3 false 0 8)))) (base .combine false 8)).buf =
      (withSlot (slot .combine (.filling (some 8))) State.reset).buf := by decide +kernel
theorem test_requestPresented_reject :
    (after (.requestPresented (some (msg (ask .read 3 false 0 8)))) (base .reject false 8)).acc.queue =
      [.rdataError 3 .rejected] := by decide +kernel
theorem test_responseSent :
    (after .responseSent
      (after (.requestPresented (some (msg (ask .read 3 false 0 8)))) (base .reject false 8))).wires.irsp =
      some (0b00_1_00011_00#10, zeroLanes) := by decide +kernel
theorem test_holdTimerExpiry :
    (slotAt (after (.holdTimerExpiry 0) (withSlot (slot .combine (.filling (some 1))) State.reset)) 0).map (·.phase) =
      some (.draining [piece .waiting]) := by decide +kernel
theorem test_holdTimerExpiry_early :
    (slotAt (after (.holdTimerExpiry 0) (withSlot (slot .combine (.filling (some 2))) State.reset)) 0).map (·.phase) =
      some (.filling (some 2)) := by decide +kernel
theorem test_mreqReady :
    (after .mreqReadyRise State.reset).arb.mreqReady = true ∧
      (after .mreqReadyFall (ready State.reset)).arb.mreqReady = false := by decide +kernel

/-- A state whose slot 0 drains, its one piece WAITING at the arbiter. -/
def drains : State :=
  let s := ready (withSlot (slot .combine (.draining [piece .waiting])) State.reset)
  { s with arb := { s.arb with drain := [.drainHead] } }

theorem test_grant :
    (after .grant drains).wires.mreq = some (memHeader 0 pieceReq.op, zeroLanes) ∧
      entryAt (after .grant drains) 0 = .issued pieceReq 0 500 := by decide +kernel

/-- A state whose one drain piece is ISSUED. -/
def drainIssued : State :=
  withEntry (.issued pieceReq 0 500) (withSlot (slot .combine (.draining [piece .issued])) State.reset)

theorem test_done : noSlotLive (after (.done 0 zeroLanes) drainIssued) = true := by decide +kernel
theorem test_defer : entryAt (after (.defer 0) drainIssued) 0 = .backoffWaiting pieceReq 1 2 := by decide +kernel
theorem test_fault :
    (after (.fault 0) drainIssued).flog.records =
      [{ cause := .memFault, line := 0, mask := 0xFF, window := .win 0, cls := .combine, epoch := 0, attempts := 0 }] ∧
      (after (.fault 0) drainIssued).fence.loss = true := by decide +kernel
theorem test_badResp :
    (after (.badResp 4) State.reset).trk.capture = some { kind := .badResp, tag := 4 } ∧
      (after (.badResp 4) State.reset).irq.status = 8 := by decide +kernel
theorem test_responseTimerExpiry :
    entryAt (after (.responseTimerExpiry 0) (withEntry (.issued pieceReq 0 1) drainIssued)) 0 = .late 8000 ∧
      entryAt (after (.responseTimerExpiry 0) drainIssued) 0 = .issued pieceReq 0 500 := by decide +kernel
theorem test_backoffTimerExpiry :
    (after (.backoffTimerExpiry 0) (withEntry (.backoffWaiting pieceReq 1 1) State.reset)).arb.drain =
      [.reissue 0] := by decide +kernel
theorem test_reclaimTimerExpiry :
    entryAt (after (.reclaimTimerExpiry 0) (withEntry (.late 1) State.reset)) 0 = .free ∧
      entryAt (after (.reclaimTimerExpiry 0) (withEntry (.late 2) State.reset)) 0 = .late 2 := by decide +kernel
theorem test_drnReqRise : (after .drnReqRise State.reset).quiesce.drnAck = true := by decide +kernel
theorem test_drnReqFall :
    (after .drnReqFall (withQuiesce .quiet false true true State.reset)).quiesce = State.reset.quiesce := by
  decide +kernel
theorem test_commit :
    (after (.commit false) State.reset).port.result = .done ∧ (after (.commit false) State.reset).irq.status = 16 := by decide +kernel
theorem test_dpReset :
    (after (.dpReset false) State.reset).port.result = .done ∧ (after (.dpReset false) drainIssued).port.result = .refused := by
  decide +kernel
theorem test_dpResetForce :
    entryAt (after (.dpResetForce false) drainIssued) 0 = .late 8000 ∧
      (after (.dpResetForce false) drainIssued).flog.records.map (·.cause) = [.resetDiscard] := by decide +kernel
theorem test_logPop :
    (after (.logPop false) { State.reset with flog := { records := [loss], overflow := 3 } }).flog =
      { records := [], overflow := 3 } ∧ (after (.logPop false) State.reset).port.result = .refused := by decide +kernel
theorem test_logClearOvf :
    (after (.logClearOvf false) { State.reset with flog := { records := [loss], overflow := 3 } }).flog =
      { records := [loss], overflow := 0 } := by decide +kernel
theorem test_protoClear :
    (after (.protoClear false) (after (.badResp 4) State.reset)).trk.capture = none ∧
      (after (.protoClear false) (after (.badResp 4) State.reset)).irq.status = 8 := by decide +kernel
theorem test_unknownCommand :
    (after (.unknownCommand 0x07 false) State.reset).port.result = .refused ∧
      (after (.unknownCommand 0x07 false) State.reset).port.index = 0x11 := by decide +kernel
theorem test_interruptStatusWrite :
    (after (.interruptStatusWrite 0x0A false) { State.reset with irq := { status := 0x1B, mask := 0x1F } }).irq.status =
      0x11 := by decide +kernel
theorem test_interruptMaskWrite :
    irqN (after (.interruptMaskWrite 0x1E false) { State.reset with irq := { status := 1, mask := 0x1F } }) = false := by
  decide +kernel
theorem test_responseTimeout_pair :
    (after (.responseTimeoutHighWrite 0x02 true) (after (.responseTimeoutLowWrite 0x01 false) State.reset)).cfg.responseTimeout =
      0x0201 := by decide +kernel
theorem test_responseTimeout_zero :
    (after (.responseTimeoutHighWrite 0x00 true) (after (.responseTimeoutLowWrite 0x00 false) State.reset)).wires.ack =
      some false := by decide +kernel
theorem test_stagedTableWrite :
    ((after (.stagedTableWrite 0x60 0xFF false) State.reset).win.staged.recs[1]) =
      { WindowRecord.reset with enable := true, prefetch := true, cls := .reject } := by decide +kernel
theorem test_registerWrite :
    (after (.registerWrite 0x08 0x10 false) State.reset).cfg.highWatermark = 0x10 ∧
      (after (.registerWrite 0x08 0x11 false) State.reset).wires.ack = some false := by decide +kernel
theorem test_indexPointerWrite :
    (after (.indexPointerWrite 0x58 0x2D) State.reset).port.index = 0x2D ∧
      (after (.indexPointerWrite 0x59 0x2D) State.reset).wires.ack = some false := by decide +kernel
theorem test_data_bytes_follow_the_pointer :
    (after (.interruptMaskWrite 0x05 true) (after (.registerWrite 0x08 0x10 false) State.reset)).cfg.promotionTime =
      0x05 ∧
      (after (.interruptMaskWrite 0x05 true) (after (.registerWrite 0x08 0x11 false) State.reset)).port =
        (after (.registerWrite 0x08 0x11 false) State.reset).port := by decide +kernel
theorem test_foreign_transfer_ignored :
    (after (.commit true) (after (.indexPointerWrite 0x5B 0x10) State.reset)).port.result = .none := by decide +kernel
theorem test_logHeadRead :
    (after (.logHeadRead (some 0x58) true)
      { State.reset with
        flog := { records := [loss], overflow := 0 }, port := { State.reset.port with index := 0x30 } }).wires.sda =
      some 0x02 := by decide +kernel
theorem test_powerOnReset :
    (after (.powerOnReset false 2 true) State.reset).quiesce.state = .quiet ∧
      ownAddress (after (.powerOnReset false 2 true) State.reset) = 0x5A := by decide +kernel
theorem test_ageCountTick :
    (after .ageCountTick (withSlot (slot .combine .sealed) State.reset)).drain.queue = [{ slot := 0, age := 1 }] := by
  decide +kernel
theorem test_ageCountTick_expires :
    (slotAt (after .ageCountTick (withSlot (slot .combine (.filling (some 1))) State.reset)) 0).map (·.phase) =
      some (.draining [piece .waiting]) ∧
      entryAt (after .ageCountTick (withEntry (.late 1) State.reset)) 0 = .free ∧
      entryAt (after .ageCountTick (withEntry (.late 2) State.reset)) 0 = .late 1 := by decide +kernel
theorem test_readTransfer :
    (after (.readTransfer (some 0x58) false) State.reset).wires.sda = some 0x46 ∧
      (after (.readTransfer (some 0x58) false) State.reset).port.index = 1 ∧
      (after (.readTransfer none false) State.reset).wires.sda = none := by decide +kernel

/-! ### The hypotheses of the obligations can be met -/

theorem witness_StepTakesFront :
    ∃ s : State, s.pending = [] :=
  ⟨State.reset, rfl⟩

theorem witness_HeldResetIgnoresCommands :
    ∃ (s : State) (c : Instr), s.inReset = true ∧ (∀ h a d, c ≠ .powerOnReset h a d) ∧ c ≠ .mreqReadyRise ∧
      c ≠ .mreqReadyFall :=
  ⟨{ State.reset with inReset := true }, .grant, rfl, nofun, nofun, nofun⟩

theorem witness_EventEnds_examinedAnew :
    (∃ s0 s : State, acceptStopped s0 = true ∧ acceptStopped s = false ∧ s.acc.head ≠ none) ∧
      (∃ s0 s : State, liveCount s < liveCount s0 ∧ s.acc.head ≠ none) ∧
      (∃ s0 s : State, s.fence.list.length < s0.fence.list.length ∧ s.acc.head ≠ none) ∧
      ∃ s : State, s.inReset = false ∧ s.acc.head ≠ none ∧ acceptStopped s = false :=
  let s := setHead (some (msg (ask .write 0 false 0 8))) State.reset
  ⟨⟨withQuiesce .quiet false true true State.reset, s, by decide +kernel⟩,
    ⟨withSlot (slot .combine .sealed) State.reset, s, by decide +kernel⟩,
    ⟨withFences 1 State.reset, s, by decide +kernel⟩, s, by decide +kernel⟩

theorem witness_EventEnds_quiet :
    (∃ s : State, s.quiesce.state = .quiescing ∧ quietCondition s = true ∧ s.quiesce.commitPending = false) ∧
      (∃ s : State, s.quiesce.state = .quiescing ∧ quietCondition s = true ∧ s.quiesce.commitPending = true ∧
        TagsWhole s ∧ s.quiesce.drainHeld = false) ∧
      ∃ s : State, s.quiesce.state = .quiescing ∧ quietCondition s = false :=
  ⟨⟨withQuiesce .quiescing false true false State.reset, by decide +kernel⟩,
    ⟨withQuiesce .quiescing true false false State.reset, rfl, by decide +kernel, rfl,
      by unfold TagsWhole ResponsesWhole ReadsWhole FencesWhole WaitersWhole; decide +kernel, rfl⟩,
    withSlot (slot .combine .sealed) (withQuiesce .quiescing false true false State.reset), by decide +kernel⟩

theorem witness_ResponseSentFreesTag :
    (∃ (s : State) (r : Response) (rest : List Response), s.inReset = false ∧ s.acc.queue = r :: rest) ∧
      ∃ s : State, s.inReset = false ∧ s.acc.queue = [] :=
  ⟨⟨{ State.reset with acc := { State.reset.acc with queue := [.wackOk 31] } }, .wackOk 31, [], rfl, rfl⟩,
    State.reset, rfl, rfl⟩

theorem witness_RequestWaitsOrLeaves :
    (∃ s : State, s.inReset = false ∧ s.quiesce.state ≠ .run) ∧
      ∃ s : State, s.inReset = false ∧ ∃ (t : Tag) (op : AccessOp), tagState s t = .direct op :=
  ⟨⟨withQuiesce .quiescing false true false State.reset, by decide⟩,
    { State.reset with acc := { State.reset.acc with tags := State.reset.acc.tags.set 31 (.direct .write) } }, rfl, 31,
    .write, by decide +kernel⟩

theorem witness_TagInUseDropped :
    ∃ (s : State) (m : IReqMsg) (r : Request), s.inReset = false ∧ acceptStopped s = false ∧ decodeRequest m = r ∧
      tagState s r.tag ≠ .free :=
  ⟨withRead (pendingRead 1 .issued) State.reset, msg (ask .read 1 false 0 8), ask .read 1 false 0 8, by decide +kernel⟩

theorem witness_MalformedAnswered_badOp :
    ∃ (s : State) (m : IReqMsg) (r : Request) (k : RequestError), s.inReset = false ∧ acceptStopped s = false ∧
      decodeRequest m = r ∧ tagState s r.tag = .free ∧ (r.op = .unknown ∧ k = .badOp ∨
      (r.op = .read ∨ r.op = .write) ∧ k = .badSpan ∧
        (r.span.size = 0 ∨ 64 < r.span.size ∨ 64 < offsetOf r.span.addr + r.span.size)) :=
  ⟨State.reset, msg (ask .unknown 0 false 0 1), ask .unknown 0 false 0 1, .badOp, by decide +kernel⟩

theorem witness_MalformedAnswered_sizeZero :
    ∃ (s : State) (m : IReqMsg) (r : Request) (k : RequestError), s.inReset = false ∧ acceptStopped s = false ∧
      decodeRequest m = r ∧ tagState s r.tag = .free ∧ (r.op = .unknown ∧ k = .badOp ∨
      (r.op = .read ∨ r.op = .write) ∧ k = .badSpan ∧
        (r.span.size = 0 ∨ 64 < r.span.size ∨ 64 < offsetOf r.span.addr + r.span.size)) :=
  ⟨State.reset, msg (ask .read 0 false 0 0), ask .read 0 false 0 0, .badSpan, by decide +kernel⟩

theorem witness_MalformedAnswered_size65 :
    ∃ (s : State) (m : IReqMsg) (r : Request) (k : RequestError), s.inReset = false ∧ acceptStopped s = false ∧
      decodeRequest m = r ∧ tagState s r.tag = .free ∧ (r.op = .unknown ∧ k = .badOp ∨
      (r.op = .read ∨ r.op = .write) ∧ k = .badSpan ∧
        (r.span.size = 0 ∨ 64 < r.span.size ∨ 64 < offsetOf r.span.addr + r.span.size)) :=
  ⟨State.reset, msg (ask .write 0 false 0 65), ask .write 0 false 0 65, .badSpan, by decide +kernel⟩

theorem witness_MalformedAnswered_pastLine :
    ∃ (s : State) (m : IReqMsg) (r : Request) (k : RequestError), s.inReset = false ∧ acceptStopped s = false ∧
      decodeRequest m = r ∧ tagState s r.tag = .free ∧ (r.op = .unknown ∧ k = .badOp ∨
      (r.op = .read ∨ r.op = .write) ∧ k = .badSpan ∧
        (r.span.size = 0 ∨ 64 < r.span.size ∨ 64 < offsetOf r.span.addr + r.span.size)) :=
  ⟨State.reset, msg (ask .read 0 false 63 2), ask .read 0 false 63 2, .badSpan, by decide +kernel⟩

theorem witness_LowestWindowDecides :
    ∃ (w : Windows) (p q : Page) (n : Fin 8), (w.active.recs[n]).decides p = true ∧
      (∀ k : Fin 8, k < n → (w.active.recs[k]).decides p = false) ∧ ∀ k : Fin 8, (w.active.recs[k]).decides q = false :=
  ⟨(base .combine false 8).win, 0, 1, 0, by decide +kernel⟩

theorem witness_RejectedAnswered_read :
    ∃ (s : State) (m : IReqMsg) (r : Request), Admitted s m r ∧ (r.op = .read ∨ r.op = .write) ∧
      (classOf s r).cls = .reject :=
  ⟨base .reject false 8, msg (ask .read 31 false 0 64), ask .read 31 false 0 64, by unfold Admitted; decide +kernel⟩

theorem witness_RejectedAnswered_write :
    ∃ (s : State) (m : IReqMsg) (r : Request), Admitted s m r ∧ (r.op = .read ∨ r.op = .write) ∧
      (classOf s r).cls = .reject :=
  ⟨base .reject false 8, msg (ask .write 31 false 0 64), ask .write 31 false 0 64, by unfold Admitted; decide +kernel⟩

theorem witness_WriteOpensSlot_posted63 :
    ∃ (s : State) (m : IReqMsg) (r : Request) (i : SlotIx) (sealed : Bool), Admitted s m r ∧ r.op = .write ∧
      ((classOf s r).cls = .combine ∧ fillingOfLine s r.span.line = none ∨ (classOf s r).cls = .sequence) ∧
      firstEmptySlot s = some i ∧
      (sealed = true ↔ r.confirm = true ∨ r.span.size = 64 ∨ (classOf s r).cls = .sequence) :=
  ⟨base .combine false 8, msg (ask .write 0 false 0 63), ask .write 0 false 0 63, 0, false,
    by unfold Admitted; decide +kernel⟩

theorem witness_WriteOpensSlot_posted64 :
    ∃ (s : State) (m : IReqMsg) (r : Request) (i : SlotIx) (sealed : Bool), Admitted s m r ∧ r.op = .write ∧
      ((classOf s r).cls = .combine ∧ fillingOfLine s r.span.line = none ∨ (classOf s r).cls = .sequence) ∧
      firstEmptySlot s = some i ∧
      (sealed = true ↔ r.confirm = true ∨ r.span.size = 64 ∨ (classOf s r).cls = .sequence) :=
  ⟨base .combine false 8, msg (ask .write 0 false 0 64), ask .write 0 false 0 64, 0, true,
    by unfold Admitted; decide +kernel⟩

theorem witness_WriteOpensSlot_confirmed :
    ∃ (s : State) (m : IReqMsg) (r : Request) (i : SlotIx) (sealed : Bool), Admitted s m r ∧ r.op = .write ∧
      ((classOf s r).cls = .combine ∧ fillingOfLine s r.span.line = none ∨ (classOf s r).cls = .sequence) ∧
      firstEmptySlot s = some i ∧
      (sealed = true ↔ r.confirm = true ∨ r.span.size = 64 ∨ (classOf s r).cls = .sequence) :=
  ⟨base .combine false 8, msg (ask .write 0 true 0 1), ask .write 0 true 0 1, 0, true,
    by unfold Admitted; decide +kernel⟩

theorem witness_WriteOpensSlot_sequence :
    ∃ (s : State) (m : IReqMsg) (r : Request) (i : SlotIx) (sealed : Bool), Admitted s m r ∧ r.op = .write ∧
      ((classOf s r).cls = .combine ∧ fillingOfLine s r.span.line = none ∨ (classOf s r).cls = .sequence) ∧
      firstEmptySlot s = some i ∧
      (sealed = true ↔ r.confirm = true ∨ r.span.size = 64 ∨ (classOf s r).cls = .sequence) :=
  ⟨base .sequence false 8, msg (ask .write 0 false 0 1), ask .write 0 false 0 1, 0, true,
    by unfold Admitted; decide +kernel⟩

theorem witness_WriteMerges_posted :
    ∃ (s : State) (m : IReqMsg) (r : Request) (i : SlotIx) (x : Slot) (sealed : Bool), Admitted s m r ∧
      r.op = .write ∧ (classOf s r).cls = .combine ∧ fillingOfLine s r.span.line = some i ∧ slotAt s i = some x ∧
      (sealed = true ↔ r.confirm = true ∨ x.valid ||| r.span.mask = BitVec.allOnes 64) :=
  ⟨withSlot (slot .combine (.filling none)) (base .combine false 0), msg (ask .write 0 false 8 55),
    ask .write 0 false 8 55, 0, slot .combine (.filling none), false, by unfold Admitted; decide +kernel⟩

theorem witness_WriteMerges_full :
    ∃ (s : State) (m : IReqMsg) (r : Request) (i : SlotIx) (x : Slot) (sealed : Bool), Admitted s m r ∧
      r.op = .write ∧ (classOf s r).cls = .combine ∧ fillingOfLine s r.span.line = some i ∧ slotAt s i = some x ∧
      (sealed = true ↔ r.confirm = true ∨ x.valid ||| r.span.mask = BitVec.allOnes 64) :=
  ⟨withSlot (slot .combine (.filling none)) (base .combine false 0), msg (ask .write 0 false 8 56),
    ask .write 0 false 8 56, 0, slot .combine (.filling none), true, by unfold Admitted; decide +kernel⟩

theorem witness_WriteMerges_confirmed :
    ∃ (s : State) (m : IReqMsg) (r : Request) (i : SlotIx) (x : Slot) (sealed : Bool), Admitted s m r ∧
      r.op = .write ∧ (classOf s r).cls = .combine ∧ fillingOfLine s r.span.line = some i ∧ slotAt s i = some x ∧
      (sealed = true ↔ r.confirm = true ∨ x.valid ||| r.span.mask = BitVec.allOnes 64) :=
  ⟨withSlot (slot .combine (.filling none)) (base .combine false 0), msg (ask .write 0 true 0 1),
    ask .write 0 true 0 1, 0, slot .combine (.filling none), true, by unfold Admitted; decide +kernel⟩

/-- Every slot in phase `ph`, each for a line of its own but line 0. -/
def fullBuffer (cls : AccessClass) (ph : SlotPhase) : State :=
  let s := base cls false 0
  { s with
    buf :=
      { slots := Vector.ofFn fun i => some { slot .combine ph with line := BitVec.ofNat 34 (i.val + 1) }
        ages := List.finRange 16 } }

theorem witness_WriteWithoutRoomWaits_combine :
    ∃ (s : State) (m : IReqMsg) (r : Request) (i : SlotIx) (x : Slot), Admitted s m r ∧ r.op = .write ∧
      ((classOf s r).cls = .combine ∧ fillingOfLine s r.span.line = none ∨ (classOf s r).cls = .sequence) ∧
      firstEmptySlot s = none ∧ s.buf.ages.find? (slotFilling s) = some i ∧ slotAt s i = some x :=
  ⟨fullBuffer .combine (.filling none), msg (ask .write 0 false 0 8), ask .write 0 false 0 8, 0,
    { slot .combine (.filling none) with line := 1 }, by unfold Admitted; decide +kernel⟩

theorem witness_WriteWithoutRoomWaits_sequence :
    ∃ (s : State) (m : IReqMsg) (r : Request) (i : SlotIx) (x : Slot), Admitted s m r ∧ r.op = .write ∧
      ((classOf s r).cls = .combine ∧ fillingOfLine s r.span.line = none ∨ (classOf s r).cls = .sequence) ∧
      firstEmptySlot s = none ∧ s.buf.ages.find? (slotFilling s) = some i ∧ slotAt s i = some x :=
  ⟨fullBuffer .sequence (.filling none), msg (ask .write 0 false 0 8), ask .write 0 false 0 8, 0,
    { slot .combine (.filling none) with line := 1 }, by unfold Admitted; decide +kernel⟩

theorem witness_WriteWithoutRoomWaits_noneFilling :
    ∃ (s : State) (m : IReqMsg) (r : Request), Admitted s m r ∧ r.op = .write ∧
      ((classOf s r).cls = .combine ∧ fillingOfLine s r.span.line = none ∨ (classOf s r).cls = .sequence) ∧
      firstEmptySlot s = none ∧ ∀ i ∈ s.buf.ages, slotFilling s i = false :=
  ⟨fullBuffer .combine .sealed, msg (ask .write 0 false 0 8), ask .write 0 false 0 8,
    by unfold Admitted; decide +kernel⟩

theorem witness_WriteReportSpoilsEntry_none :
    ∃ (s : State) (l : Line), pfOfLine s l = none :=
  ⟨State.reset, 0, by decide +kernel⟩

theorem witness_WriteReportSpoilsEntry_valid :
    ∃ (s : State) (l : Line) (e : PfIx) (x : PfEntry), RecencyWhole s ∧ pfOfLine s l = some e ∧ pfAt s e = some x ∧
      x.state = .valid zeroLanes :=
  ⟨withPf (.valid zeroLanes) State.reset, 0, 0, { line := 0, window := 0, state := .valid zeroLanes }, by unfold RecencyWhole; decide +kernel⟩

theorem witness_WriteReportSpoilsEntry_pending :
    ∃ (s : State) (l : Line) (e : PfIx) (x : PfEntry), RecencyWhole s ∧ pfOfLine s l = some e ∧ pfAt s e = some x ∧
      x.state = .pending [1] :=
  ⟨withPf (.pending [1]) State.reset, 0, 0, { line := 0, window := 0, state := .pending [1] }, by unfold RecencyWhole; decide +kernel⟩

theorem witness_WriteReportSpoilsEntry_stale :
    ∃ (s : State) (l : Line) (e : PfIx) (x : PfEntry), RecencyWhole s ∧ pfOfLine s l = some e ∧ pfAt s e = some x ∧
      x.state = .stale [] :=
  ⟨withPf (.stale []) State.reset, 0, 0, { line := 0, window := 0, state := .stale [] }, by unfold RecencyWhole; decide +kernel⟩

theorem witness_WriteReportSpoilsEntry_requested :
    ∃ (s : State) (l : Line) (e : PfIx) (x : PfEntry), RecencyWhole s ∧ pfOfLine s l = some e ∧ pfAt s e = some x ∧
      x.state = .requested [1] ∧ TagsWhole s ∧ ∀ u ∈ [(1 : Tag)], (readOf s u).isSome = true :=
  ⟨withPf (.requested [1]) (withRead (pendingRead 1 (.joined 0)) State.reset), 0, 0,
    { line := 0, window := 0, state := .requested [1] }, by unfold RecencyWhole; decide +kernel, by decide +kernel,
    by decide +kernel, rfl,
    by unfold TagsWhole ResponsesWhole ReadsWhole FencesWhole WaitersWhole; decide +kernel, by decide +kernel⟩

theorem witness_ReadOfBufferedLine_covered :
    ∃ (s : State) (m : IReqMsg) (r : Request) (i : SlotIx) (x : Slot), Admitted s m r ∧ TagsWhole s ∧ r.op = .read ∧
      ((classOf s r).cls = .combine ∨ (classOf s r).cls = .sequence) ∧ youngestOfLine s r.span.line = some i ∧
      slotAt s i = some x ∧ covers x.valid r.span.mask = true :=
  ⟨withSlot (slot .combine (.sealed)) (base .combine false 8), msg (ask .read 0 false 0 8), ask .read 0 false 0 8, 0,
    slot .combine (.sealed), by unfold Admitted; decide +kernel,
    by unfold TagsWhole ResponsesWhole ReadsWhole FencesWhole WaitersWhole; decide +kernel, by decide +kernel⟩

theorem witness_ReadOfBufferedLine_uncovered :
    ∃ (s : State) (m : IReqMsg) (r : Request) (i : SlotIx) (x : Slot), Admitted s m r ∧ TagsWhole s ∧ r.op = .read ∧
      ((classOf s r).cls = .combine ∨ (classOf s r).cls = .sequence) ∧ youngestOfLine s r.span.line = some i ∧
      slotAt s i = some x ∧ covers x.valid r.span.mask = false ∧ fillingOfLine s r.span.line = none :=
  ⟨withSlot (slot .combine (.sealed)) (base .combine false 8), msg (ask .read 0 false 0 9), ask .read 0 false 0 9, 0,
    slot .combine (.sealed), by unfold Admitted; decide +kernel,
    by unfold TagsWhole ResponsesWhole ReadsWhole FencesWhole WaitersWhole; decide +kernel, by decide +kernel⟩

theorem witness_ReadOfBufferedLine_filling :
    ∃ (s : State) (m : IReqMsg) (r : Request) (i : SlotIx) (x : Slot), Admitted s m r ∧ TagsWhole s ∧ r.op = .read ∧
      ((classOf s r).cls = .combine ∨ (classOf s r).cls = .sequence) ∧ youngestOfLine s r.span.line = some i ∧
      slotAt s i = some x ∧ covers x.valid r.span.mask = false ∧ fillingOfLine s r.span.line = some i :=
  ⟨withSlot (slot .combine (.filling (some 1))) (base .combine false 8), msg (ask .read 0 false 0 9), ask .read 0 false 0 9, 0,
    slot .combine (.filling (some 1)), by unfold Admitted; decide +kernel,
    by unfold TagsWhole ResponsesWhole ReadsWhole FencesWhole WaitersWhole; decide +kernel, by decide +kernel⟩

theorem witness_ReadOfUnbufferedLine_combine :
    ∃ (s : State) (m : IReqMsg) (r : Request), Admitted s m r ∧ TagsWhole s ∧ r.op = .read ∧
      youngestOfLine s r.span.line = none ∧ (classOf s r).cls = .combine ∧ pfOfLine s r.span.line = none :=
  ⟨base .combine true 8, msg (ask .read 0 false 0 8), ask .read 0 false 0 8,
    by unfold Admitted; decide +kernel,
    by unfold TagsWhole ResponsesWhole ReadsWhole FencesWhole WaitersWhole; decide +kernel, by decide +kernel⟩

theorem witness_ReadOfUnbufferedLine_sequence :
    ∃ (s : State) (m : IReqMsg) (r : Request), Admitted s m r ∧ TagsWhole s ∧ r.op = .read ∧
      youngestOfLine s r.span.line = none ∧ (classOf s r).cls = .sequence :=
  ⟨base .sequence true 8, msg (ask .read 0 false 0 8), ask .read 0 false 0 8,
    by unfold Admitted; decide +kernel,
    by unfold TagsWhole ResponsesWhole ReadsWhole FencesWhole WaitersWhole; decide +kernel, by decide +kernel⟩

/-- A read of a line whose prefetch entry stands in each of the four states, with prefetch enabled. -/
theorem witness_ReadOfUnbufferedLine_entry :
    ∀ st ∈ ([.stale [], .requested [], .pending [1], .valid zeroLanes] : List PfState),
      ∃ (s : State) (m : IReqMsg) (r : Request) (e : PfIx) (x : PfEntry), Admitted s m r ∧ TagsWhole s ∧
        r.op = .read ∧ youngestOfLine s r.span.line = none ∧ (classOf s r).cls = .combine ∧
        (classOf s r).prefetch = true ∧ pfOfLine s r.span.line = some e ∧ pfAt s e = some x ∧ x.state = st := by
  intro st h
  refine ⟨withPf st (base .combine true 8), msg (ask .read 0 false 0 8), ask .read 0 false 0 8, 0,
    { line := 0, window := 0, state := st }, ?_⟩
  fin_cases h <;> exact ⟨by unfold Admitted; decide +kernel,
    by unfold TagsWhole ResponsesWhole ReadsWhole FencesWhole WaitersWhole; decide +kernel, by decide +kernel⟩

/-- A state whose four prefetch entries are PENDING, for lines other than 0 to 4. -/
def pfBusy (s : State) : State :=
  { s with
    pf := { s.pf with
      entries := Vector.ofFn fun e => some { line := BitVec.ofNat 34 (8 + e.val), window := 0, state := .pending [] } } }

theorem witness_PrefetchTrigger_made :
    (∃ (s : State) (l : Line), pageOf (lineAddr (l + 1)) = pageOf (lineAddr l) ∧
        (∀ e : PfIx, ∀ x ∈ pfAt s e, x.line ≠ l + 1) ∧
        (∀ i : SlotIx, ∀ x ∈ slotAt s i, x.line ≠ l + 1) ∧ s.quiesce.state = .run ∧ s.pf.recency = [] ++ 0 :: [1, 2, 3] ∧ ∃ x d, pfAt s 0 = some x ∧ x.state = .valid d) ∧
      (∃ (s : State) (l : Line), pageOf (lineAddr (l + 1)) ≠ pageOf (lineAddr l) ∧ s.quiesce.state = .run) ∧
      ∃ s : State, ∀ e ∈ s.pf.recency, ∃ x, pfAt s e = some x ∧ ∀ d, x.state ≠ .valid d :=
  ⟨⟨withPf (.valid zeroLanes) State.reset, 62, by decide +kernel, by decide +kernel, by decide +kernel,
      rfl, rfl, _, zeroLanes, rfl, rfl⟩,
    ⟨State.reset, 63, by decide +kernel⟩,
    pfBusy State.reset, fun e _ => ⟨{ line := BitVec.ofNat 34 (8 + e.val), window := 0, state := .pending [] },
      by revert e; decide +kernel, nofun⟩⟩

theorem witness_FenceByBufferAndList_fifth :
    ∃ (s : State) (m : IReqMsg) (r : Request), Admitted s m r ∧ r.op = .fence ∧ 4 ≤ s.fence.list.length :=
  ⟨withFences 4 State.reset, msg (ask .fence 4 false 0 0), ask .fence 4 false 0 0, by unfold Admitted; decide +kernel⟩

theorem witness_FenceByBufferAndList_empty :
    ∃ (s : State) (m : IReqMsg) (r : Request), Admitted s m r ∧ r.op = .fence ∧ noSlotLive s = true ∧ s.fence.list = [] :=
  ⟨State.reset, msg (ask .fence 4 false 0 0), ask .fence 4 false 0 0, by unfold Admitted; decide +kernel⟩

theorem witness_FenceByBufferAndList_fourth :
    ∃ (s : State) (m : IReqMsg) (r : Request), Admitted s m r ∧ r.op = .fence ∧ s.fence.list.length < 4 ∧ AgesWhole s ∧
      noSlotLive s = false :=
  ⟨withSlot (slot .combine (.filling none)) (withFences 3 State.reset), msg (ask .fence 4 false 0 0),
    ask .fence 4 false 0 0, by unfold Admitted AgesWhole; decide +kernel⟩

theorem witness_FenceByBufferAndList_test :
    (∃ (s : State) (f : FenceRecord) (rest : List FenceRecord), s.fence.list = f :: rest ∧
        ∃ i x, slotAt s i = some x ∧ x.epoch = f.epoch) ∧
      ∃ (s : State) (f : FenceRecord) (rest : List FenceRecord), s.fence.list = f :: rest ∧
        (∀ i : SlotIx, ∀ x ∈ slotAt s i, x.epoch ≠ f.epoch) ∧ noSlotLive s = false :=
  ⟨⟨withSlot (slot .combine .sealed) (withFences 1 State.reset), { tag := 0, epoch := 0 }, [], by decide +kernel, 0,
      slot .combine .sealed, by decide +kernel⟩,
    withSlot { slot .combine .sealed with epoch := 1 } (withFences 2 State.reset), { tag := 0, epoch := 0 },
    [{ tag := 1, epoch := 1 }], by decide +kernel⟩

theorem witness_DirectAccessReleased_accepted :
    ∃ (s : State) (m n : IReqMsg) (r q : Request), Admitted s m r ∧ TagsWhole s ∧ AgesWhole s ∧
      (classOf s r).cls = .direct ∧ r.op = .read ∧ Admitted s n q ∧ (classOf s q).cls = .direct ∧ q.op = .write ∧
      noSlotLive s = false :=
  ⟨withSlot (slot .combine (.filling none)) (base .direct false 8), msg (ask .read 0 false 0 8),
    msg (ask .write 0 false 0 8), ask .read 0 false 0 8, ask .write 0 false 0 8, by unfold Admitted; decide +kernel,
    by unfold TagsWhole ResponsesWhole ReadsWhole FencesWhole WaitersWhole; decide +kernel,
    by unfold AgesWhole; decide +kernel, by unfold Admitted; decide +kernel⟩

/-- A DIRECT write of bytes 0 to 15 of line 0, in a phase. -/
def directWrite (ph : DirectPhase) : ReadRecord :=
  { tag := 1, access := .write zeroLanes, span := { addr := 0, size := 16 }, window := .default, cls := .direct
    prefetch := false, state := .directWait ph false }

/-- A DIRECT read of bytes 0 to 7 of line 0, in a phase. -/
def directRead (ph : DirectPhase) : ReadRecord :=
  { pendingRead 1 (.directWait ph false) with window := .default, cls := .direct }

theorem witness_DirectAccessReleased_test :
    (∃ (s : State) (r : ReadRecord), noSlotLive s = true ∧ s.rd.reads = [] ++ r :: [] ∧
        r.state = .directWait .held false ∧ r.access = .read) ∧
      (∃ (s : State) (r : ReadRecord), noSlotLive s = true ∧ s.rd.reads = [] ++ r :: [] ∧
        r.state = .directWait .held false ∧ ∃ d, r.access = .write d) ∧
      ∃ (s : State) (r : ReadRecord), noSlotLive s = false ∧ s.rd.reads = [r] ∧ r.state = .directWait .held false :=
  ⟨⟨withRead (directRead .held) State.reset, directRead .held, by decide +kernel⟩,
    ⟨withRead (directWrite .held) State.reset, directWrite .held, by decide +kernel, rfl, rfl, zeroLanes, rfl⟩,
    withRead (directRead .held) (withSlot (slot .combine .sealed) State.reset), directRead .held, by decide +kernel⟩

theorem witness_TimersExpireWhenDue_hold :
    (∃ (s : State) (i : SlotIx) (x : Slot), s.inReset = false ∧ slotAt s i = some x ∧ x.phase = .filling (some 1)) ∧
      ∃ (s : State) (i : SlotIx) (x : Slot), s.inReset = false ∧ slotAt s i = some x ∧ x.phase = .filling (some 2) :=
  ⟨⟨withSlot (slot .combine (.filling (some 1))) State.reset, 0, slot .combine (.filling (some 1)), by decide +kernel⟩,
    withSlot (slot .combine (.filling (some 2))) State.reset, 0, slot .combine (.filling (some 2)), by decide +kernel⟩

theorem witness_TimersExpireWhenDue_entries :
    (∀ n ∈ [1, 2], ∃ (s : State) (m : MemTag) (req : MemRequest) (a : Nat), s.inReset = false ∧
        entryAt s m = .backoffWaiting req a n ∧ ∀ e, req.origin ≠ .prefetch e) ∧
      (∀ n ∈ [1, 2], ∃ (s : State) (m : MemTag), s.inReset = false ∧ entryAt s m = .late n) ∧
      ∃ (s : State) (m : MemTag) (req : MemRequest) (a : Nat), s.inReset = false ∧ entryAt s m = .issued req a 2 :=
  ⟨fun n _ => ⟨withEntry (.backoffWaiting readReq 1 n) State.reset, 0, readReq, 1, rfl, rfl, nofun⟩,
    fun n _ => ⟨withEntry (.late n) State.reset, 0, rfl, rfl⟩, withEntry (.issued readReq 1 2) State.reset, 0, readReq, 1,
    rfl, rfl⟩

theorem witness_DrainTestBeginsOneSlot_waits :
    ∃ (s : State) (e : DrainEntry) (x : Slot) (ps : List Piece) (p : Piece), e ∈ s.drain.queue ∧
      slotAt s e.slot = some x ∧ x.phase = .draining ps ∧ p ∈ ps ∧ p.outcome = .waiting :=
  ⟨drains, { slot := 0, age := 0 }, slot .combine (.draining [piece .waiting]), [piece .waiting], piece .waiting,
    by decide +kernel⟩

/-- A state whose slot 1, for another line, is sealed behind slot 0. -/
def sealedBehind (x : Slot) : State :=
  let s := withSlot x State.reset
  { s with
    buf := { slots := s.buf.slots.set 1 (some { slot .combine .sealed with line := 1 }), ages := [0, 1] }
    drain := { queue := [{ slot := 0, age := 3 }, { slot := 1, age := 0 }] } }

/-- The drain engine begins slot 1, passing over slot 0, which a pending read blocks. -/
theorem witness_DrainTestBeginsOneSlot_begins :
    ∃ (s : State) (before after : List DrainEntry) (e : DrainEntry) (x : Slot), issuing s = none ∧
      s.drain.queue = before ++ e :: after ∧ (∀ b ∈ before, eligible s b.slot = false) ∧ before ≠ [] ∧
      eligible s e.slot = true ∧ slotAt s e.slot = some x ∧
      (slotAt (drainTest s) e.slot).map (·.phase) = some (.draining [piece .waiting]) ∧
      (drainTest s).arb.drain = [.drainHead] :=
  ⟨sealedBehind { slot .combine .sealed with blockers := [1] }, [{ slot := 0, age := 3 }], [], { slot := 1, age := 0 },
    { slot .combine .sealed with line := 1 }, by decide +kernel⟩

/-- Two whole granules and a part of the third: a burst of 2 where one of 4 could stand. -/
theorem witness_PiecesCoverMask :
    ∃ (m : ByteMask) (p : Piece), p ∈ formPieces m ∧ p.shape = .burst .two ∧
      BurstLen.two.granules < BurstLen.four.granules ∧ p.start.val % BurstLen.four.granules = 0 :=
  ⟨0x07FFFF, { start := 0, shape := .burst .two, outcome := .waiting }, by decide +kernel⟩

theorem witness_TickCounts :
    (∃ (s : State) (i : SlotIx) (x : Slot), s.inReset = false ∧ slotAt s i = some x ∧ x.phase = .filling (some 1)) ∧
      (∃ (s : State) (i : SlotIx) (x : Slot), s.inReset = false ∧ slotAt s i = some x ∧ x.phase = .filling (some 2)) ∧
      ∃ (s : State) (m : MemTag), s.inReset = false ∧ entryAt s m = .late 1 :=
  ⟨⟨withSlot (slot .combine (.filling (some 1))) State.reset, 0, slot .combine (.filling (some 1)), by decide +kernel⟩,
    ⟨withSlot (slot .combine (.filling (some 2))) State.reset, 0, slot .combine (.filling (some 2)), by decide +kernel⟩,
    withEntry (.late 1) State.reset, 0, rfl, rfl⟩

theorem witness_EligibilityConditions :
    ∃ (s : State) (i : SlotIx) (x : Slot), slotAt s i = some x ∧ eligible s i = true :=
  ⟨withSlot (slot .sequence .sealed) State.reset, 0, slot .sequence .sealed, by decide +kernel⟩

theorem witness_ReadyGatesGrants :
    (∃ s : State, s.inReset = false ∧ s.arb.mreqReady = false) ∧ ∃ s : State, s.inReset = false ∧ winner s = none :=
  ⟨⟨State.reset, rfl, rfl⟩, ready State.reset, by decide +kernel⟩

/-- A state with a demand read, a drain head and a prefetch offered. -/
def offers (s : State) : State :=
  { s with arb := { demand := [.read 1], drain := [.drainHead], prefetch := [.prefetch 0], mreqReady := true } }

theorem witness_WinnerFollowsGrantOrder :
    (∃ s : State, promoted s = false ∧ winner (offers s) = some (.demand, .read 1)) ∧
      (∃ s : State, promoted s = true ∧ winner (offers s) = some (.drain, .drainHead)) ∧
      (∃ s : State, (readyOrder s .demand).find? (grantable (freeCount s) .demand) = none ∧
        (readyOrder s .drain).find? (grantable (freeCount s) .drain) = none ∧
        s.arb.prefetch.find? (grantable (freeCount s) .prefetch) = some (.prefetch 0)) ∧
      ∃ s : State, winner s = none :=
  ⟨⟨State.reset, by decide +kernel⟩, ⟨withFences 1 State.reset, by decide +kernel⟩,
    ⟨{ State.reset with arb := { State.reset.arb with prefetch := [.prefetch 0] } }, by decide +kernel⟩, State.reset,
    by decide +kernel⟩

/-- A state whose one pending read waits for its grant. -/
def demands : State :=
  let s := ready (withRead (pendingRead 1 .waitGrant) State.reset)
  { s with arb := { s.arb with demand := [.read 1] } }

/-- A state whose released DIRECT access `r` has its request offered. -/
def offersDirect (r : ReadRecord) : State :=
  let s := ready (withRead r State.reset)
  { s with arb := { s.arb with demand := [.direct] } }

/-- A state whose prefetch entry 0 offers its request. -/
def offersPrefetch : State :=
  let s := ready (withPf (.requested [1]) State.reset)
  { s with arb := { s.arb with prefetch := [.prefetch 0] } }

theorem witness_GrantSendsReads :
    (∃ (s : State) (m : MemTag) (t : Tag) (r : ReadRecord), s.inReset = false ∧ s.arb.mreqReady = true ∧
        firstFree s = some m ∧ winner s = some (.demand, .read t) ∧ readOf s t = some r) ∧
      (∃ (s : State) (m : MemTag) (r : ReadRecord), s.inReset = false ∧ s.arb.mreqReady = true ∧
        firstFree s = some m ∧ winner s = some (.demand, .direct) ∧
        s.rd.reads.find? (fun q => q.released.isSome) = some r ∧ r.access = .read) ∧
      ∃ (s : State) (m : MemTag) (e : PfIx) (x : PfEntry), s.inReset = false ∧ s.arb.mreqReady = true ∧
        firstFree s = some m ∧ winner s = some (.prefetch, .prefetch e) ∧ pfAt s e = some x ∧
        x.state = .requested [1] :=
  ⟨⟨demands, 0, 1, pendingRead 1 .waitGrant, by decide +kernel⟩,
    ⟨offersDirect (directRead (.released [])), 0, directRead (.released []), by decide +kernel⟩,
    offersPrefetch, 0, 0, { line := 0, window := 0, state := .requested [1] }, by decide +kernel⟩

/-- A state whose slot 0 drains two pieces, both WAITING. -/
def drainsTwo : State :=
  let s := ready (withSlot (slot .combine (.draining [piece .waiting, piece .waiting])) State.reset)
  { s with arb := { s.arb with drain := [.drainHead] } }

theorem witness_GrantSendsPieces_drain :
    ∀ q ∈ ([(drains, [piece .waiting]), (drainsTwo, [piece .waiting, piece .waiting])] : List (State × List Piece)),
      ∃ (m : MemTag) (i : SlotIx) (x : Slot) (k : Nat) (p : Piece), q.1.inReset = false ∧ q.1.arb.mreqReady = true ∧
        firstFree q.1 = some m ∧ firstWaiting q.2 = some (k, p) ∧ winner q.1 = some (.drain, .drainHead) ∧
        issuing q.1 = some i ∧ slotAt q.1 i = some x ∧ x.phase = .draining q.2 := by
  intro q h
  refine ⟨0, 0, slot .combine (.draining q.2), 0, piece .waiting, ?_⟩
  fin_cases h <;> decide +kernel

theorem witness_GrantSendsPieces_direct :
    ∀ ps ∈ ([[piece .waiting], [piece .waiting, piece .waiting]] : List (List Piece)),
      ∃ (s : State) (m : MemTag) (r : ReadRecord) (d : Lanes) (lost : Bool) (k : Nat) (p : Piece), s.inReset = false ∧
        s.arb.mreqReady = true ∧ firstFree s = some m ∧ firstWaiting ps = some (k, p) ∧
        winner s = some (.demand, .direct) ∧ s.rd.reads.find? (fun q => q.released.isSome) = some r ∧
        r.state = .directWait (.released ps) lost ∧ r.access = .write d := by
  intro ps h
  refine ⟨offersDirect (directWrite (.released ps)), 0, directWrite (.released ps), zeroLanes, false, 0,
    piece .waiting, ?_⟩
  fin_cases h <;> decide +kernel

theorem witness_GrantReissuesUnchanged :
    ∃ (s : State) (c : RequestClass) (m : MemTag) (req : MemRequest) (a : Nat), s.inReset = false ∧
      s.arb.mreqReady = true ∧ winner s = some (c, .reissue m) ∧ entryAt s m = .backoffOffered req a :=
  ⟨{ withEntry (.backoffOffered pieceReq 15) State.reset with
      arb := { demand := [], drain := [.reissue 0], prefetch := [], mreqReady := true } }, .drain, 0, pieceReq, 15,
    by decide +kernel⟩

/-- A state whose one pending read is ISSUED under memory tag 0. -/
def readIssued (attempts : Nat) : State :=
  withEntry (.issued readReq attempts 1) (withRead (pendingRead 1 .issued) State.reset)

/-- That state, QUIESCING, with a request waiting on the link. -/
def readIssuedWaits (attempts : Nat) : State :=
  let s := withQuiesce .quiescing false true false (readIssued attempts)
  { s with acc := { s.acc with head := some (msg (ask .write 2 false 0 8)) } }

theorem witness_DoneAnswersDemandRead :
    ∃ (s : State) (m : MemTag) (t : Tag) (op : MemOp) (a n : Nat) (r : ReadRecord), s.inReset = false ∧
      entryAt s m = .issued { origin := .demand t, op := op } a n ∧ readOf s t = some r ∧ s.acc.head ≠ none ∧
      s.quiesce.state = .quiescing :=
  ⟨readIssuedWaits 0, 0, 1, readReq.op, 0, 1, pendingRead 1 .issued, by decide +kernel⟩

theorem witness_LateResponseAbsorbed :
    (∃ (s : State) (m : MemTag) (n : Nat), s.inReset = false ∧ entryAt s m = .late n ∧ s.trk.lateCount = 255) ∧
      ∃ (s : State) (m : MemTag) (n : Nat), s.inReset = false ∧ entryAt s m = .late n ∧ s.trk.lateCount = 0 :=
  ⟨⟨{ withEntry (.late 1) State.reset with
      trk := { (withEntry (.late 1) State.reset).trk with lateCount := 255 } }, 0, 1, by decide +kernel⟩,
    withEntry (.late 1) State.reset, 0, 1, by decide +kernel⟩

theorem witness_StrayResponseDropped :
    (∃ (s : State) (m : MemTag), s.inReset = false ∧ entryAt s m = .free) ∧
      (∃ (s : State) (m : MemTag) (req : MemRequest) (a n : Nat), s.inReset = false ∧
        entryAt s m = .backoffWaiting req a n) ∧
      ∃ (s : State) (m : MemTag) (req : MemRequest) (a : Nat), s.inReset = false ∧ entryAt s m = .backoffOffered req a :=
  ⟨⟨State.reset, 15, by decide +kernel⟩,
    ⟨withEntry (.backoffWaiting pieceReq 1 2) State.reset, 0, pieceReq, 1, 2, by decide +kernel⟩,
    withEntry (.backoffOffered pieceReq 1) State.reset, 0, pieceReq, 1, by decide +kernel⟩

theorem witness_DeferBacksOff :
    ∃ (s : State) (m : MemTag) (req : MemRequest) (a n : Nat), s.inReset = false ∧ entryAt s m = .issued req a n ∧
      (∀ e, req.origin ≠ .prefetch e) ∧ a + 1 ≤ s.cfg.retryLimit.toNat :=
  ⟨readIssued 6, 0, readReq, 6, 1, rfl, by decide +kernel, nofun, by decide +kernel⟩

/-- The three give-ups, each at its bound: the fault, the DEFER above the limit of 7, the expiry in the last tick. -/
theorem witness_GiveUpAnswersDemandRead :
    ∀ g ∈ ([(.fault 0, .free, .memFault, 7), (.defer 0, .free, .deferLimit, 8),
        (.responseTimerExpiry 0, .late 8000, .timeout, 7)] : List (Instr × TrackerEntry × LossCause × Nat)),
      ∃ (s : State) (t : Tag) (op : MemOp) (r : ReadRecord), s.inReset = false ∧
        entryAt s 0 = .issued { origin := .demand t, op := op } 7 1 ∧ readOf s t = some r ∧ s.acc.head ≠ none ∧
        s.quiesce.state = .quiescing ∧ GivesUp s 0 7 1 g.1 g.2.1 g.2.2.1 g.2.2.2 := by
  intro g h
  refine ⟨readIssuedWaits 7, 1, readReq.op, pendingRead 1 .issued, ?_⟩
  unfold GivesUp
  fin_cases h <;> decide +kernel

/-- A state whose DIRECT access `r` has the request of its first piece under memory tag 0, in the last tick. -/
def directIssued (r : ReadRecord) : State :=
  withEntry (.issued { origin := .direct 1 0, op := .mrd { addr := 0, size := 8 } } 0 1) (withRead r State.reset)

theorem witness_DirectAccessAnswered_read :
    ∃ (s : State) (t : Tag) (op : MemOp) (r : ReadRecord), s.inReset = false ∧
      entryAt s 0 = .issued { origin := .direct t 0, op := op } 0 1 ∧ readOf s t = some r ∧ r.access = .read ∧
      GivesUp s 0 0 1 (.responseTimerExpiry 0) (.late 8000) .timeout 0 :=
  ⟨directIssued (directRead (.released [])), 1, .mrd { addr := 0, size := 8 }, directRead (.released []), by
    unfold GivesUp; decide +kernel⟩

theorem witness_DirectAccessAnswered_write :
    ∀ ps ∈ ([[piece .issued], [piece .issued, piece .waiting]] : List (List Piece)),
      ∃ (s : State) (t : Tag) (op : MemOp) (r : ReadRecord), s.inReset = false ∧
        entryAt s 0 = .issued { origin := .direct t 0, op := op } 0 1 ∧ readOf s t = some r ∧
        r.access = .write zeroLanes ∧ r.state = .directWait (.released ps) false := by
  intro ps h
  refine ⟨directIssued (directWrite (.released ps)), 1, .mrd { addr := 0, size := 8 }, directWrite (.released ps), ?_⟩
  fin_cases h <;> decide +kernel

/-- A state whose drain piece 0 of `ps` is under memory tag 0 with `a` attempts, in the last tick. -/
def pieceIssued (ps : List Piece) (a : Nat) : State :=
  withEntry (.issued pieceReq a 1) (withSlot (slot .combine (.draining ps)) State.reset)

/-- The three give-ups of a drain piece, the last of its slot or not, with room in the log or none. -/
theorem witness_LostPieceRecorded :
    ∀ g ∈ ([(.fault 0, .free, .memFault, 7), (.defer 0, .free, .deferLimit, 8),
        (.responseTimerExpiry 0, .late 8000, .timeout, 7)] : List (Instr × TrackerEntry × LossCause × Nat)),
      ∀ ps ∈ ([[piece .issued], [piece .issued, piece .issued]] : List (List Piece)), ∀ n ∈ [0, 8],
        ∃ (s : State) (x : Slot) (p : Piece), s.inReset = false ∧
          entryAt s 0 = .issued { origin := .drain 0 0, op := pieceReq.op } 7 1 ∧ slotAt s 0 = some x ∧
          x.phase = .draining ps ∧ ps[0]? = some p ∧ GivesUp s 0 7 1 g.1 g.2.1 g.2.2.1 g.2.2.2 ∧
          s.flog.records.length = n := by
  intro g h ps hp n hn
  refine ⟨{ pieceIssued ps 7 with flog := { records := List.replicate n loss, overflow := 0 } },
    slot .combine (.draining ps), piece .issued, ?_⟩
  unfold GivesUp
  fin_cases h <;> fin_cases hp <;> fin_cases hn <;> decide +kernel

theorem witness_DonePieceResolved :
    ∀ ps ∈ ([[piece .issued], [piece .issued, piece .issued]] : List (List Piece)),
      ∃ (s : State) (x : Slot), s.inReset = false ∧
        entryAt s 0 = .issued { origin := .drain 0 0, op := pieceReq.op } 7 1 ∧ slotAt s 0 = some x ∧
        x.phase = .draining ps ∧ 0 < ps.length := by
  intro ps hp
  refine ⟨pieceIssued ps 7, slot .combine (.draining ps), ?_⟩
  fin_cases hp <;> decide +kernel

theorem witness_ReadsReleased :
    (∃ (s : State) (r : ReadRecord), readOf s 1 = some r ∧ r.state = .waitDeps [0, 3] ∧
        [(0 : SlotIx), 3].filter (· != 0) ≠ []) ∧
      (∃ (s : State) (r : ReadRecord), readOf s 1 = some r ∧ r.state = .waitDeps [0] ∧ r.cls = .sequence) ∧
      (∃ (s : State) (r : ReadRecord), readOf s 1 = some r ∧ r.state = .waitDeps [0] ∧ r.cls = .combine ∧
        pfOfLine s r.span.line = none) ∧
      ∀ st ∈ ([.stale [], .requested [], .pending [], .valid zeroLanes] : List PfState),
        ∃ (s : State) (r : ReadRecord) (e : PfIx) (x : PfEntry), readOf s 1 = some r ∧ r.state = .waitDeps [0] ∧
          r.cls = .combine ∧ pfOfLine s r.span.line = some e ∧ pfAt s e = some x ∧ x.state = st := by
  refine ⟨⟨withRead (pendingRead 1 (.waitDeps [0, 3])) State.reset, pendingRead 1 (.waitDeps [0, 3]), by decide +kernel⟩,
    ⟨withRead { pendingRead 1 (.waitDeps [0]) with cls := .sequence } State.reset,
      { pendingRead 1 (.waitDeps [0]) with cls := .sequence }, by decide +kernel⟩,
    ⟨withRead (pendingRead 1 (.waitDeps [0])) State.reset, pendingRead 1 (.waitDeps [0]), by decide +kernel⟩,
    fun st h => ⟨withPf st (withRead (pendingRead 1 (.waitDeps [0])) State.reset), pendingRead 1 (.waitDeps [0]), 0,
      { line := 0, window := 0, state := st }, ?_⟩⟩
  fin_cases h <;> decide +kernel

/-- The outcomes of a PENDING and of a STALE entry, with and without a joined read. -/
theorem witness_PrefetchOutcomes :
    ∀ st ∈ ([.pending [], .pending [1], .stale [], .stale [1]] : List PfState),
      ∃ (s : State) (x : PfEntry), s.inReset = false ∧
        entryAt s 0 = .issued { origin := .prefetch 0, op := .mrd { addr := 0, size := 64 } } 0 1 ∧
        pfAt s 0 = some x ∧ x.state = st ∧ RecencyWhole s ∧ TagsWhole s := by
  intro st h
  refine ⟨withEntry (.issued { origin := .prefetch 0, op := .mrd { addr := 0, size := 64 } } 0 1)
    (withPf st (withRead (pendingRead 1 (.joined 0)) State.reset)), { line := 0, window := 0, state := st }, ?_⟩
  fin_cases h <;> exact ⟨rfl, by decide +kernel, by decide +kernel, rfl, by unfold RecencyWhole; decide +kernel,
    by unfold TagsWhole ResponsesWhole ReadsWhole FencesWhole WaitersWhole; decide +kernel⟩

/-- A state whose staged record 0 is enabled, with these pages. -/
def staged (lo hi : Page) (s : State) : State :=
  let w : WindowRecord := { WindowRecord.reset with enable := true, base := lo, limit := hi }
  { s with win := { s.win with staged := { s.win.staged with recs := s.win.staged.recs.set 0 w } } }

/-- A data byte lands in two ways: it begins its transfer, or it is the next byte and the pointer stands at its register. -/
theorem witness_Lands :
    (∀ (s : State) (i : Byte), Lands s false i) ∧
      ∃ s : State, s.inReset = false ∧ Lands s true 0x10 ∧ s.quiesce.commitPending = false :=
  ⟨fun _ _ => .inl rfl, after (.indexPointerWrite 0x58 0x10) State.reset, by unfold Lands; decide +kernel⟩

theorem witness_CommitActsByState_pending :
    ∃ s : State, s.inReset = false ∧ s.quiesce.commitPending = true :=
  ⟨withQuiesce .quiescing true false false State.reset, by decide⟩

theorem witness_CommitActsByState_invalid :
    ∃ s : State, s.inReset = false ∧ s.quiesce.commitPending = false ∧ ¬StagedValid s :=
  ⟨staged 1 0 State.reset, by unfold StagedValid; decide +kernel⟩

theorem witness_CommitActsByState_quiescing :
    ∃ s : State, s.inReset = false ∧ s.quiesce.commitPending = false ∧ StagedValid s ∧ s.quiesce.state = .quiescing :=
  ⟨staged 1 1 (withQuiesce .quiescing false true false State.reset), by unfold StagedValid; decide +kernel⟩

theorem witness_CommitActsByState_quiet :
    ∃ s : State, s.inReset = false ∧ StagedValid s ∧ QuiesceLaw s.quiesce ∧ TagsWhole s ∧ s.quiesce.state = .quiet :=
  ⟨withQuiesce .quiet false true true State.reset, rfl, by unfold StagedValid; decide +kernel,
    by unfold QuiesceLaw; decide +kernel,
    by unfold TagsWhole ResponsesWhole ReadsWhole FencesWhole WaitersWhole; decide +kernel, rfl⟩

theorem witness_CommitActsByState_runSettled :
    ∃ s : State, s.inReset = false ∧ StagedValid s ∧ QuiesceLaw s.quiesce ∧ TagsWhole s ∧ s.quiesce.state = .run ∧
      quietCondition s = true ∧ afterInvalidation s ≠ s :=
  ⟨withPf (.requested [1]) (withRead (pendingRead 1 (.joined 0)) State.reset), rfl,
    by unfold StagedValid; decide +kernel, by unfold QuiesceLaw; decide +kernel,
    by unfold TagsWhole ResponsesWhole ReadsWhole FencesWhole WaitersWhole; decide +kernel, by decide +kernel⟩

theorem witness_CommitActsByState_runBusy :
    ∃ s : State, s.inReset = false ∧ StagedValid s ∧ QuiesceLaw s.quiesce ∧ TagsWhole s ∧ AgesWhole s ∧
      s.quiesce.state = .run ∧ quietCondition s = false ∧ afterSealAll s ≠ s :=
  ⟨withSlot (slot .combine (.filling none)) State.reset, rfl, by unfold StagedValid; decide +kernel,
    by unfold QuiesceLaw; decide +kernel,
    by unfold TagsWhole ResponsesWhole ReadsWhole FencesWhole WaitersWhole; decide +kernel,
    by unfold AgesWhole; decide +kernel, by decide +kernel⟩

theorem witness_DrainLineMovesController_rise :
    (∃ s : State, s.inReset = false ∧ QuiesceLaw s.quiesce ∧ s.quiesce.state = .run ∧ TagsWhole s ∧
        quietCondition s = true) ∧
      (∃ s : State, s.inReset = false ∧ QuiesceLaw s.quiesce ∧ s.quiesce.state = .run ∧ TagsWhole s ∧ AgesWhole s ∧
        quietCondition s = false) ∧
      ∃ s : State, s.inReset = false ∧ QuiesceLaw s.quiesce ∧ s.quiesce.state = .quiescing :=
  ⟨⟨State.reset, rfl, by unfold QuiesceLaw; decide +kernel, rfl,
      by unfold TagsWhole ResponsesWhole ReadsWhole FencesWhole WaitersWhole; decide +kernel, by decide +kernel⟩,
    ⟨withSlot (slot .combine .sealed) State.reset, rfl, by unfold QuiesceLaw; decide +kernel, rfl,
      by unfold TagsWhole ResponsesWhole ReadsWhole FencesWhole WaitersWhole; decide +kernel,
      by unfold AgesWhole; decide +kernel, by decide +kernel⟩,
    withQuiesce .quiescing true false false State.reset, by unfold QuiesceLaw; decide +kernel⟩

theorem witness_DrainLineMovesController_fall :
    (∃ s : State, s.inReset = false ∧ QuiesceLaw s.quiesce ∧ s.quiesce.state = .quiescing ∧
        s.quiesce.commitPending = true) ∧
      (∃ s : State, s.inReset = false ∧ QuiesceLaw s.quiesce ∧ s.quiesce.state = .quiescing ∧
        s.quiesce.commitPending = false ∧ s.acc.head ≠ none) ∧
      ∃ s : State, s.inReset = false ∧ QuiesceLaw s.quiesce ∧ s.quiesce.state = .quiet :=
  ⟨⟨withQuiesce .quiescing true true false State.reset, by unfold QuiesceLaw; decide +kernel⟩,
    ⟨setHead (some (msg (ask .write 0 false 0 8))) (withQuiesce .quiescing false true false State.reset),
      by unfold QuiesceLaw; decide +kernel⟩,
    withQuiesce .quiet false true true State.reset, by unfold QuiesceLaw; decide +kernel⟩

theorem witness_LogCommands :
    (∃ s : State, s.inReset = false ∧ s.flog.records = []) ∧ ∃ s : State, s.inReset = false ∧ s.flog.records = [loss] :=
  ⟨⟨State.reset, rfl, rfl⟩, { State.reset with flog := { records := [loss], overflow := 0 } }, rfl, rfl⟩

theorem witness_CommandBytes :
    (Instr.unknownCommand 0x00 false).wf = true ∧ (Instr.unknownCommand 0xFF false).wf = true ∧
      ∃ (s : State) (c : Instr) (b : PortByte), s.inReset = false ∧ c.wf = true ∧ portByte c = some b ∧
        b.index = 0x10 ∧ Lands s b.follows 0x10 :=
  ⟨by decide, by decide, after (.indexPointerWrite 0x58 0x10) State.reset, .commit true,
    { index := 0x10, value := 0x01, follows := true }, by unfold Lands; decide +kernel⟩

/-- A state in a read transfer, its pointer at `i`, with a copy of the log head or none. -/
def reading (i : Byte) (copy : Option (Option LossRecord)) : State :=
  { State.reset with port := { State.reset.port with index := i, transfer := .read copy } }

theorem witness_StatusWriteClears :
    (∃ s : State, s.inReset = false ∧ s.port.index = 0x18 ∧ s.port.transfer = .read none) ∧
      ∃ s : State, s.inReset = false ∧ Lands s true 0x18 :=
  ⟨⟨reading 0x18 none, rfl, rfl, rfl⟩, after (.indexPointerWrite 0x58 0x18) State.reset, rfl, .inr (by decide)⟩

theorem witness_RegisterWritesChecked :
    ∃ s : State, s.inReset = false ∧ (∀ i : Byte, Lands s false i) ∧
      ∀ i ∈ ([0x00, 0x07, 0x11, 0x5A, 0xFF] : List Byte), (Instr.registerWrite i 0 false).wf = true ∧
        i ∉ [0x08, 0x09, 0x0A, 0x0B, 0x0F] :=
  ⟨State.reset, rfl, fun _ => .inl rfl, by decide⟩

theorem witness_StagedWritesTaken :
    ∃ s u : State, s.inReset = false ∧ u.inReset = false ∧ s.quiesce.commitPending = true ∧
      u.quiesce.commitPending = false ∧
      ∀ i ∈ ([0x0E, 0x50, 0xC9] : List Byte), (Instr.stagedTableWrite i 0 false).wf = true :=
  ⟨withQuiesce .quiescing true false false State.reset, State.reset, by decide⟩

theorem witness_TransfersMovePointer_writes :
    (∃ (c c' : Instr) (b b' : PortByte), portByte c = some b ∧ portByte c' = some b' ∧ b.follows = true ∧
        b'.follows = true ∧ b.value = b'.value ∧ b.index ≠ b'.index) ∧
      (∃ (s u : State) (c c' : Instr) (b : PortByte), s.inReset = false ∧ portByte c = some b ∧ b.follows = false ∧
        portByte c' = some { b with follows := true } ∧
        exec (.indexPointerWrite (ownAddress s) b.index) s = .next u) ∧
      ∃ s : State, s.inReset = false ∧ s.port.transfer = .refused :=
  ⟨⟨.commit true, .interruptMaskWrite 0x01 true, _, _, rfl, rfl, rfl, rfl, rfl, by decide⟩,
    ⟨State.reset, _, .commit false, .commit true, _, rfl, rfl, rfl, rfl, rfl⟩,
    after (.registerWrite 0x08 0 false) State.reset, by decide +kernel⟩

theorem witness_TransfersMovePointer_reads :
    (∃ s : State, s.inReset = false ∧ inLogHead s.port.index = false ∧ s.port.index = 0xFF ∧
        s.port.transfer = .read none) ∧
      (∃ s : State, s.inReset = false ∧ ∀ c, s.port.transfer ≠ .read c) ∧
      ∃ (s : State) (a : BitVec 7), s.inReset = false ∧ a ≠ ownAddress s :=
  ⟨⟨reading 0xFF none, by decide⟩, ⟨State.reset, rfl, nofun⟩, State.reset, 0x59, by decide⟩

/-- Each run of unassigned indices at both its ends. -/
theorem witness_RegisterSummaryReads_unassigned :
    ∀ i ∈ ([0x04, 0x07, 0x12, 0x17, 0x1A, 0x1F, 0x26, 0x27, 0x2F, 0x42, 0x4F, 0x5A, 0x5F, 0xCA, 0xCF, 0xD0, 0xFF] :
        List Byte),
      4 ≤ i.toNat ∧ i.toNat < 8 ∨ 0x12 ≤ i.toNat ∧ i.toNat < 0x18 ∨ 0x1A ≤ i.toNat ∧ i.toNat < 0x20 ∨
        0x26 ≤ i.toNat ∧ i.toNat < 0x28 ∨ i.toNat = 0x2F ∨ 0x42 ≤ i.toNat ∧ i.toNat < 0x50 ∨
        0x50 ≤ i.toNat ∧ i.toNat < 0xD0 ∧ 10 ≤ i.toNat % 16 ∨ 0xD0 ≤ i.toNat := by decide

theorem witness_RegisterSummaryReads :
    ∃ s : State, FencesBounded s ∧ LogBounded s ∧ s.fence.list.length = 4 ∧ s.flog.records.length = 8 :=
  ⟨{ withFences 4 State.reset with flog := { records := List.replicate 8 loss, overflow := 255 } },
    by unfold FencesBounded LogBounded; decide +kernel⟩

theorem witness_LogHeadCopied :
    (∃ (s : State) (c : Option LossRecord), s.inReset = false ∧ inLogHead s.port.index = true ∧
        s.port.transfer = .read (some c) ∧ s.port.index = 0x41) ∧
      ∃ s : State, s.inReset = false ∧ inLogHead s.port.index = true ∧ s.port.index = 0x30 ∧
        s.port.transfer = .read none :=
  ⟨⟨reading 0x41 (some (some loss)), some loss, by decide⟩, reading 0x30 none, by decide⟩

/-- A slot with a DONE piece and an ISSUED one: only the bytes of the latter are discarded. -/
theorem witness_DpResetForceClears_mask :
    ∃ (x : Slot) (ps : List Piece) (p : Piece), x.phase = .draining ps ∧ p ∈ ps ∧ p.outcome = .done ∧
      p.mask.getLsbD 0 = true ∧ (discardRecord x).mask = 0xFF00 :=
  ⟨{ slot .combine (.draining [piece .done, { piece .issued with start := 1 }]) with valid := 0xFFFF }, _, piece .done,
    rfl, by decide +kernel⟩

theorem witness_DpResetOnlyWhenIdle :
    (∃ s : State, s.inReset = false ∧ (∀ i, slotAt s i = none) ∧ entryAt s 0 = .late 1 ∧
        (∀ m, m ≠ 0 → entryAt s m = .free) ∧ (∀ t, tagState s t = .free) ∧ s.fence.list = []) ∧
      ∃ s : State, s.inReset = false ∧ tagState s 31 ≠ .free :=
  ⟨⟨withEntry (.late 1) State.reset, by decide +kernel⟩,
    withRead (pendingRead 31 .issued) State.reset, by decide +kernel⟩

/-- Log entry 25: a request with a bad span that waits while a commit is pending sets PROTO within DP_RESET_FORCE. -/
theorem test_dpResetForce_waitingError :
    let s := withQuiesce .quiescing true false false State.reset
    let t := after (.dpResetForce false) { s with acc := { s.acc with head := some (msg (ask .read 2 false 0 0)) } }
    t.irq.status = 8 ∧ t.acc.capture = some { kind := .badSpan, tag := 2 } ∧ t.acc.head = none := by decide +kernel

theorem witness_DpResetForceClears :
    ∃ (s : State) (room : Nat), s.inReset = false ∧ room = 8 - s.flog.records.length ∧ room = 0 ∧ s.buf.ages ≠ [] :=
  ⟨{ drainIssued with flog := { records := List.replicate 8 loss, overflow := 255 } }, 0, by decide +kernel⟩

theorem witness_CodingsRoundTrip :
    (∃ r : Request, r.span.size < 128 ∧ r.span.size = 127) ∧
      (∃ (c : Instr) (d : Lanes) (h : BitVec 6), mrspHeader c = some h ∧ ∀ m e, c = .done m e → e = d) ∧
      (∃ (c : Instr) (b : PortByte), c.wf = true ∧ portByte c = some b) ∧
      ∀ kind : BitVec 2, ∃ (m : MemTag) (h : BitVec 6), h.extractLsb' 2 4 = BitVec.ofNat 4 m.val ∧
        h.extractLsb' 0 2 = kind :=
  ⟨⟨ask .read 0 false 0 127, by decide⟩, ⟨.badResp 15, zeroLanes, _, rfl, nofun⟩,
    ⟨.stagedTableWrite 0xC9 0xFF true, _, by decide, rfl⟩, fun kind => ⟨15, 15#4 ++ kind, by revert kind; decide⟩⟩

theorem witness_StepKeepsBounds :
    ∃ s t : State, Bounded s ∧ step s = .next t :=
  ⟨State.reset, State.reset, by
    unfold Bounded LogBounded FencesBounded RecencyWhole ThresholdsInRange EntriesInRange HoldsInRange
    decide +kernel, rfl⟩

theorem witness_StepKeepsQuiesceLaws :
    (∃ s t : State, QuiesceSafe s ∧ step s = .next t) ∧ ∃ s : State, QuiesceSafe s ∧ s.quiesce.drnAck = true :=
  ⟨⟨State.reset, State.reset, by unfold QuiesceSafe QuiesceLaw QuietHolds; decide +kernel, rfl⟩,
    withQuiesce .quiet false true true State.reset, by unfold QuiesceSafe QuiesceLaw QuietHolds; decide +kernel⟩

theorem witness_StepKeepsBufferWhole :
    ∃ s t : State, BufferWhole s ∧ step s = .next t ∧ noSlotLive s = false :=
  ⟨drainIssued, drainIssued, by unfold BufferWhole AgesWhole DrainQueueWhole; decide +kernel, rfl, by decide +kernel⟩

theorem witness_StepKeepsTagsWhole :
    ∃ s t : State, TagsWhole s ∧ step s = .next t ∧ s.rd.reads ≠ [] :=
  ⟨readIssued 0, readIssued 0,
    by unfold TagsWhole ResponsesWhole ReadsWhole FencesWhole WaitersWhole; decide +kernel, rfl, by decide +kernel⟩

end Sys2Proof.Tests
end

section
/-! PROOFS. Every tag the units hold stands in the tag table as they need it (O59): what holds a tag, and when a change keeps the tags whole. -/

namespace Sys2Proof.Machine

set_option Elab.async false

/-! ### The tags the units hold -/

/-- The waiters of a slot; none where the slot is EMPTY. -/
def waitersAt (s : State) (i : SlotIx) : List Tag :=
  match slotAt s i with
  | some x => x.waiters
  | none => []

theorem waitersAt_of_some {s : State} {i : SlotIx} {x : Slot} (h : slotAt s i = some x) :
    waitersAt s i = x.waiters := by
  simp only [waitersAt, h]

theorem waitersAt_of_none {s : State} {i : SlotIx} (h : slotAt s i = none) : waitersAt s i = [] := by
  simp only [waitersAt, h]

theorem mem_waitersAt {s : State} {i : SlotIx} {t : Tag} :
    t ∈ waitersAt s i ↔ ∃ x, slotAt s i = some x ∧ t ∈ x.waiters := by
  cases h : slotAt s i with
  | none => simp [waitersAt_of_none h]
  | some x => simp [waitersAt_of_some h]

theorem waitersWhole_iff (s : State) :
    WaitersWhole s ↔
      (∀ i, (waitersAt s i).Nodup ∧ ∀ t ∈ waitersAt s i, tagState s t = .confirmWrite) ∧
        ∀ i j t, t ∈ waitersAt s i → t ∈ waitersAt s j → i = j := by
  constructor
  · rintro ⟨own, apart⟩
    refine ⟨fun i => ?_, fun i j t hi hj => ?_⟩
    · cases hx : slotAt s i with
      | none => simp [waitersAt_of_none hx]
      | some x => simpa only [waitersAt_of_some hx] using own i x hx
    · obtain ⟨x, hx, htx⟩ := mem_waitersAt.1 hi
      obtain ⟨y, hy, hty⟩ := mem_waitersAt.1 hj
      exact apart i j x hx y hy t htx hty
  · rintro ⟨own, apart⟩
    refine ⟨fun i x hx => ?_, fun i j x hx y hy t htx hty => ?_⟩
    · simpa only [waitersAt_of_some hx] using own i
    · exact apart i j t (mem_waitersAt.2 ⟨x, hx, htx⟩) (mem_waitersAt.2 ⟨y, hy, hty⟩)

/-- No pending read, no fence and no slot's waiter list holds the tag. -/
structure Unheld (s : State) (t : Tag) : Prop where
  reads : ∀ r ∈ s.rd.reads, r.tag ≠ t
  fences : ∀ f ∈ s.fence.list, f.tag ≠ t
  waiters : ∀ i, t ∉ waitersAt s i

/-- What `TagsWhole` says of the units that hold tags, the response queue aside. -/
def UnitsWhole (s : State) : Prop := ReadsWhole s ∧ FencesWhole s ∧ WaitersWhole s

/-- The units of `t` hold no tag that those of `s` do not hold in the same way. -/
structure HoldsNoMore (s t : State) : Prop where
  reads : (t.rd.reads.map (·.tag)).Sublist (s.rd.reads.map (·.tag))
  direct : ∀ r ∈ t.rd.reads, r.onDirectPath = true → ∃ q ∈ s.rd.reads, q.tag = r.tag ∧ q.onDirectPath = true
  fences : (t.fence.list.map (·.tag)).Sublist (s.fence.list.map (·.tag))
  waiters : ∀ i, (waitersAt t i).Sublist (waitersAt s i)

theorem HoldsNoMore.trans {s t u : State} (h : HoldsNoMore s t) (k : HoldsNoMore t u) : HoldsNoMore s u where
  reads := k.reads.trans h.reads
  direct := fun r hr hd => by
    obtain ⟨q, hq, hqr, hqd⟩ := k.direct r hr hd
    obtain ⟨p, hp, hpq, hpd⟩ := h.direct q hq hqd
    exact ⟨p, hp, hpq.trans hqr, hpd⟩
  fences := k.fences.trans h.fences
  waiters := fun i => (k.waiters i).trans (h.waiters i)

theorem HoldsNoMore.of_eq {s t : State} (hr : t.rd = s.rd) (hf : t.fence = s.fence) (hb : t.buf = s.buf) :
    HoldsNoMore s t where
  reads := by rw [hr]
  direct := fun r hm hd => ⟨r, hr ▸ hm, rfl, hd⟩
  fences := by rw [hf]
  waiters := fun i => by simp only [waitersAt, slotAt, hb]; exact .refl _

theorem Unheld.of_holdsNoMore {s t : State} {u : Tag} (h : Unheld s u) (k : HoldsNoMore s t) : Unheld t u where
  reads := fun r hr e => by
    have hm : u ∈ s.rd.reads.map (·.tag) := k.reads.subset (List.mem_map.2 ⟨r, hr, e⟩)
    obtain ⟨q, hq, rfl⟩ := List.mem_map.1 hm
    exact h.reads q hq rfl
  fences := fun f hf e => by
    have hm : u ∈ s.fence.list.map (·.tag) := k.fences.subset (List.mem_map.2 ⟨f, hf, e⟩)
    obtain ⟨g, hg, rfl⟩ := List.mem_map.1 hm
    exact h.fences g hg rfl
  waiters := fun i hi => h.waiters i ((k.waiters i).subset hi)

/-- A tag that waits in none of the four waiting states is held by no unit (R1, R64, R76, R18). -/
theorem UnitsWhole.unheld {s : State} {t : Tag} (h : UnitsWhole s) (hr : tagState s t ≠ .read)
    (hd : (tagState s t).isDirect = false) (hf : tagState s t ≠ .fence) (hc : tagState s t ≠ .confirmWrite) :
    Unheld s t := by
  obtain ⟨⟨-, reads⟩, ⟨-, fences⟩, waiters⟩ := h
  refine ⟨fun r hm e => ?_, fun f hm e => ?_, fun i hi => ?_⟩
  · subst e
    obtain ⟨state | state, -⟩ := reads r hm
    · exact hr state
    · simp [state] at hd
  · exact hf (e ▸ fences f hm)
  · exact hc ((((waitersWhole_iff s).1 waiters).1 i).2 t hi)

theorem TagsWhole.units {s : State} (h : TagsWhole s) : UnitsWhole s := h.2

theorem TagsWhole.unheld_of_free {s : State} {t : Tag} (h : TagsWhole s) (ht : tagState s t = .free) : Unheld s t :=
  h.units.unheld (by simp [ht]) (by simp [ht, TagState.isDirect]) (by simp [ht]) (by simp [ht])

theorem TagsWhole.unheld_of_responding {s : State} {t : Tag} (h : TagsWhole s) (ht : tagState s t = .responding) :
    Unheld s t :=
  h.units.unheld (by simp [ht]) (by simp [ht, TagState.isDirect]) (by simp [ht]) (by simp [ht])

/-- The units stay whole when they hold no more, and only tags that none of them holds change state. -/
theorem UnitsWhole.of_retag {s t : State} (h : UnitsWhole s) (k : HoldsNoMore s t)
    (ht : ∀ u, tagState t u = tagState s u ∨ Unheld t u) : UnitsWhole t := by
  obtain ⟨⟨rNodup, rTag⟩, ⟨fNodup, fTag⟩, waiters⟩ := h
  obtain ⟨wTag, wApart⟩ := (waitersWhole_iff s).1 waiters
  refine ⟨⟨rNodup.sublist k.reads, fun r hr => ?_⟩, ⟨fNodup.sublist k.fences, fun f hf => ?_⟩,
    (waitersWhole_iff t).2 ⟨fun i => ⟨(wTag i).1.sublist (k.waiters i), fun u hu => ?_⟩, fun i j u hi hj =>
      wApart i j u ((k.waiters i).subset hi) ((k.waiters j).subset hj)⟩⟩
  · have same : tagState t r.tag = tagState s r.tag := (ht r.tag).resolve_right fun un => un.reads r hr rfl
    obtain ⟨q, hq, hqr⟩ := List.mem_map.1 (k.reads.subset (List.mem_map_of_mem (f := (·.tag)) hr))
    rw [same]
    refine ⟨hqr ▸ (rTag q hq).1, fun hd => ?_⟩
    obtain ⟨p, hp, hpr, hpd⟩ := k.direct r hr hd
    exact hpr ▸ (rTag p hp).2 hpd
  · have same : tagState t f.tag = tagState s f.tag := (ht f.tag).resolve_right fun un => un.fences f hf rfl
    obtain ⟨g, hg, hgf⟩ := List.mem_map.1 (k.fences.subset (List.mem_map_of_mem (f := (·.tag)) hf))
    rw [same, ← hgf]
    exact fTag g hg
  · rw [(ht u).resolve_right fun un => un.waiters i hu]
    exact (wTag i).2 u ((k.waiters i).subset hu)

/-- Units that hold no tag are whole. -/
theorem UnitsWhole.of_empty {s : State} (hr : s.rd.reads = []) (hf : s.fence.list = [])
    (hw : ∀ i, slotAt s i = none) : UnitsWhole s := by
  refine ⟨⟨by simp [hr], by simp [hr]⟩, ⟨by simp [hf], by simp [hf]⟩, by simp [hw], by simp [hw]⟩

/-! ### The response queue and the tag table -/

theorem ResponsesWhole.of_eq {s t : State} (h : ResponsesWhole s) (ht : t.acc.tags = s.acc.tags)
    (hq : t.acc.queue = s.acc.queue) : ResponsesWhole t := by
  simpa only [ResponsesWhole, tagState, ht, hq] using h

theorem ResponsesWhole.pushResponse_new {s : State} {r : Response} (h : ResponsesWhole s)
    (ht : tagState s r.tag ≠ .responding) : ResponsesWhole (pushResponse r s) := by
  obtain ⟨nodup, mem⟩ := h
  have fresh : r.tag ∉ s.acc.queue.map (·.tag) := fun hm => ht ((mem r.tag).1 hm)
  refine ⟨?_, fun t => ?_⟩
  · rw [pushResponse_queue, List.map_append]
    exact List.nodup_append'.2 ⟨nodup, by simp, by simpa using fresh⟩
  · rw [pushResponse_queue, List.map_append, List.mem_append, mem t, tagState_pushResponse]
    by_cases e : r.tag = t
    · simp [e]
    · simp [e, Ne.symm e]

theorem ResponsesWhole.setTag_ne {s : State} {t : Tag} {x : TagState} (h : ResponsesWhole s)
    (ht : tagState s t ≠ .responding) (hx : x ≠ .responding) : ResponsesWhole (setTag t x s) := by
  refine ⟨h.1, fun u => (h.2 u).trans ?_⟩
  rw [tagState_setTag]
  by_cases e : t = u
  · subst e; simp [ht, hx]
  · simp [e]

theorem TagsWhole.of_parts {s : State} (h : ResponsesWhole s) (k : UnitsWhole s) : TagsWhole s := ⟨h, k⟩

theorem TagsWhole.setTag_unheld {s : State} {t : Tag} {x : TagState} (h : TagsWhole s) (un : Unheld s t)
    (ht : tagState s t ≠ .responding) (hx : x ≠ .responding) : TagsWhole (setTag t x s) := by
  have k : HoldsNoMore s (setTag t x s) := .of_eq rfl rfl rfl
  refine .of_parts (h.1.setTag_ne ht hx) (h.units.of_retag k fun u => ?_)
  by_cases e : t = u
  · exact .inr (e ▸ un.of_holdsNoMore k)
  · exact .inl (by simp [tagState_setTag, e])

theorem TagsWhole.pushResponse_unheld {s : State} {r : Response} (h : TagsWhole s) (un : Unheld s r.tag)
    (ht : tagState s r.tag ≠ .responding) : TagsWhole (pushResponse r s) := by
  have k : HoldsNoMore s (pushResponse r s) := .of_eq rfl rfl rfl
  refine .of_parts (h.1.pushResponse_new ht) (h.units.of_retag k fun u => ?_)
  by_cases e : r.tag = u
  · exact .inr (e ▸ un.of_holdsNoMore k)
  · exact .inl (by simp [tagState_pushResponse, e])

/-! ### Keeping the tags whole -/

/-- `t` keeps its tags whole if `s` does. -/
def KeepsTags (s t : State) : Prop := TagsWhole s → TagsWhole t

theorem KeepsTags.refl (s : State) : KeepsTags s s := id

theorem KeepsTags.trans {s t u : State} (h : KeepsTags s t) (k : KeepsTags t u) : KeepsTags s u := k ∘ h

theorem KeepsTags.foldl {α : Type} (f : State → α → State) (hf : ∀ s a, KeepsTags s (f s a)) (l : List α)
    (s : State) : KeepsTags s (l.foldl f s) := by
  induction l generalizing s with
  | nil => exact .refl s
  | cons a l ih => exact (hf s a).trans (ih (f s a))

theorem KeepsTags.of_holdsNoMore {s t : State} (k : HoldsNoMore s t) (ht : t.acc.tags = s.acc.tags)
    (hq : t.acc.queue = s.acc.queue) : KeepsTags s t := fun h =>
  .of_parts (h.1.of_eq ht hq) (h.units.of_retag k fun u => .inl (by simp only [tagState, ht]))

/-- An operation on blocks that hold no tags keeps the tags whole. -/
theorem KeepsTags.of_frame {bs : List Block} {s t : State} (f : Frame bs s t)
    (hb : ∀ b ∈ bs, b ∉ [Block.acc, .rd, .fence, .buf] := by decide) : KeepsTags s t := by
  have acc : t.acc = s.acc := f .acc fun hm => hb _ hm (by decide)
  have rd : t.rd = s.rd := f .rd fun hm => hb _ hm (by decide)
  have fence : t.fence = s.fence := f .fence fun hm => hb _ hm (by decide)
  have buf : t.buf = s.buf := f .buf fun hm => hb _ hm (by decide)
  exact .of_holdsNoMore (.of_eq rd fence buf) (by rw [acc]) (by rw [acc])

/-- So does one that changes slots but no waiter list. -/
theorem KeepsTags.of_waiters {bs : List Block} {s t : State} (f : Frame bs s t) (hw : ∀ i, waitersAt t i = waitersAt s i)
    (hb : ∀ b ∈ bs, b ∉ [Block.acc, .rd, .fence] := by decide) : KeepsTags s t := by
  have acc : t.acc = s.acc := f .acc fun hm => hb _ hm (by decide)
  have rd : t.rd = s.rd := f .rd fun hm => hb _ hm (by decide)
  have fence : t.fence = s.fence := f .fence fun hm => hb _ hm (by decide)
  refine .of_holdsNoMore ⟨by rw [rd], fun r hr hd => ⟨r, rd ▸ hr, rfl, hd⟩, by rw [fence], fun i => ?_⟩
    (by rw [acc]) (by rw [acc])
  rw [hw i]

theorem keepsTags_setPort (s : State) (x : ManagementPort) : KeepsTags s (s.setPort x) := .of_frame (frame_setPort s x)
theorem keepsTags_setWires (s : State) (x : Wires) : KeepsTags s (s.setWires x) := .of_frame (frame_setWires s x)
theorem keepsTags_setQuiesce (s : State) (x : QuiesceController) : KeepsTags s (s.setQuiesce x) :=
  .of_frame (frame_setQuiesce s x)

/-- A change of acceptance that leaves the tag table and the response queue as they are. -/
theorem keepsTags_setAcc {s : State} {a : Acceptance} (ht : a.tags = s.acc.tags) (hq : a.queue = s.acc.queue) :
    KeepsTags s (s.setAcc a) :=
  .of_holdsNoMore (.of_eq rfl rfl rfl) ht hq

theorem keepsTags_setHead (m : Option IReqMsg) (s : State) : KeepsTags s (setHead m s) := keepsTags_setAcc rfl rfl

theorem keepsTags_takeHead (s : State) : KeepsTags s (takeHead s) :=
  (keepsTags_setHead none s).trans (keepsTags_setWires _ _)

end Sys2Proof.Machine
end

section
/-! PROOFS. The shared operations keep the tags whole: slots, pending records, prefetch entries, fences, the end of a slot (O59). -/

namespace Sys2Proof.Machine

set_option Elab.async false

/-! ### Slots -/

theorem waitersAt_putSlot (i j : SlotIx) (x : Option Slot) (s : State) :
    waitersAt (putSlot i x s) j = if i = j then (x.map (·.waiters)).getD [] else waitersAt s j := by
  unfold waitersAt
  rw [slotAt_putSlot]
  by_cases e : i = j
  · cases x <;> simp [e]
  · simp [e]

/-- A slot record with the same waiters in the place of the slot's own. -/
theorem keepsTags_putSlot {s : State} {i : SlotIx} {x y : Slot} (h : slotAt s i = some x)
    (hw : y.waiters = x.waiters) : KeepsTags s (putSlot i (some y) s) := by
  refine .of_waiters (frame_putSlot i _ s) fun j => ?_
  rw [waitersAt_putSlot]
  split
  · next e => subst e; simp [waitersAt_of_some h, hw]
  · rfl

theorem keepsTags_sealSlot (i : SlotIx) (s : State) : KeepsTags s (sealSlot i s) := by
  unfold sealSlot; split
  · next x hx =>
    split
    · exact (keepsTags_putSlot (y := { x with phase := .sealed }) hx rfl).trans (.of_frame (frame_setDrain _ _))
    · exact .refl s
  · exact .refl s

theorem keepsTags_sealAll (s : State) : KeepsTags s (sealAll s) :=
  .foldl _ (fun t i => keepsTags_sealSlot i t) _ s

theorem keepsTags_sealLine (l : Line) (s : State) : KeepsTags s (sealLine l s) := by
  unfold sealLine; split
  · exact keepsTags_sealSlot _ s
  · exact .refl s

theorem keepsTags_pressureSeal (s : State) : KeepsTags s (pressureSeal s) := by
  unfold pressureSeal; split
  · exact keepsTags_sealSlot _ s
  · exact .refl s

theorem keepsTags_drainTest (s : State) : KeepsTags s (drainTest s) := by
  unfold drainTest; split
  · exact .refl s
  · split
    · unfold beginSlot; split
      · next x hx =>
        exact (keepsTags_putSlot (y := { x with phase := .draining (formPieces x.valid) }) hx rfl).trans
          (.of_frame (frame_offer _ _ _))
      · exact .refl s
    · exact .refl s

theorem waitersAt_dropBlocker (t : Tag) (s : State) (i : SlotIx) : waitersAt (dropBlocker t s) i = waitersAt s i := by
  have h : slotAt (dropBlocker t s) i =
      (slotAt s i).map fun x => { x with blockers := x.blockers.filter (· != t) } := by
    simp [slotAt, dropBlocker]
  unfold waitersAt
  rw [h]
  cases slotAt s i <;> rfl

/-! ### Pending records -/

/-- The tag of a pending record waits in READ or DIRECT (R76). -/
def WaitsForRead (s : State) (t : Tag) : Prop := tagState s t = .read ∨ (tagState s t).isDirect = true

theorem TagsWhole.waitsForRead {s : State} {t : Tag} {r : ReadRecord} (h : TagsWhole s) (hr : readOf s t = some r) :
    WaitsForRead s r.tag := (h.2.1.2 r (readOf_mem hr)).1

theorem putRead_tags (r : ReadRecord) (s : State) :
    (putRead r s).rd.reads.map (·.tag) =
      if r.tag ∈ s.rd.reads.map (·.tag) then s.rd.reads.map (·.tag) else s.rd.reads.map (·.tag) ++ [r.tag] := by
  cases h : readOf s r.tag with
  | none =>
    have fresh : r.tag ∉ s.rd.reads.map (·.tag) := by simpa using readOf_eq_none.1 h
    simp [putRead_new h, fresh]
  | some q =>
    have held : r.tag ∈ s.rd.reads.map (·.tag) := List.mem_map.2 ⟨q, readOf_mem h, readOf_tag h⟩
    rw [putRead_tags_old h, if_pos held]

theorem mem_putRead {r q : ReadRecord} {s : State} (h : q ∈ (putRead r s).rd.reads) : q = r ∨ q ∈ s.rd.reads := by
  cases hr : readOf s r.tag with
  | none => simpa [putRead_new hr, or_comm] using h
  | some p =>
    rw [putRead_old hr] at h
    obtain ⟨a, ha, rfl⟩ := List.mem_map.1 h
    split
    · exact .inl rfl
    · exact .inr ha

theorem keepsTags_putRead {s : State} {r : ReadRecord} (hr : WaitsForRead s r.tag)
    (hd : r.onDirectPath = true → (tagState s r.tag).isDirect = true) : KeepsTags s (putRead r s) := by
  rintro ⟨responses, ⟨nodup, tag⟩, fences, waiters⟩
  have f := frame_putRead r s
  have acc : (putRead r s).acc = s.acc := f.same .acc
  have fence : (putRead r s).fence = s.fence := f.same .fence
  have buf : (putRead r s).buf = s.buf := f.same .buf
  refine ⟨by simpa only [ResponsesWhole, tagState, acc] using responses, ⟨?_, fun q hq => ?_⟩,
    by simpa only [FencesWhole, tagState, acc, fence] using fences,
    by simpa only [WaitersWhole, slotAt, tagState, acc, buf] using waiters⟩
  · rw [putRead_tags]
    split
    · exact nodup
    · next fresh => exact List.nodup_append'.2 ⟨nodup, by simp, by simpa using fresh⟩
  · simp only [tagState, acc]
    obtain rfl | hq := mem_putRead hq
    · exact ⟨hr, hd⟩
    · exact tag q hq

/-- A new record of a pending read: it leaves the DIRECT path, or stays on it. -/
theorem keepsTags_putRead_old {s : State} {r q : ReadRecord} {t : Tag} (h : readOf s t = some q)
    (ht : r.tag = q.tag) (hd : r.onDirectPath = true → q.onDirectPath = true) : KeepsTags s (putRead r s) := fun w =>
  have hq := w.2.1.2 q (readOf_mem h)
  keepsTags_putRead (ht ▸ hq.1) (fun hr => ht ▸ hq.2 (hd hr)) w

theorem holdsNoMore_dropRead (t : Tag) (s : State) : HoldsNoMore s (dropRead t s) where
  reads := List.Sublist.map _ List.filter_sublist
  direct := fun r hr hd => ⟨r, List.mem_of_mem_filter hr, rfl, hd⟩
  fences := .refl _
  waiters := fun _ => .refl _

theorem holdsNoMore_dropBlocker (t : Tag) (s : State) : HoldsNoMore s (dropBlocker t s) where
  reads := .refl _
  direct := fun r hr hd => ⟨r, hr, rfl, hd⟩
  fences := .refl _
  waiters := fun i => by rw [waitersAt_dropBlocker]

/-- R89: a pending read is answered and its record removed. -/
theorem keepsTags_answerRead {s : State} {a : Response} (ha : WaitsForRead s a.tag) :
    KeepsTags s (answerRead a s) := fun h => by
  have k : HoldsNoMore s (answerRead a s) :=
    ((HoldsNoMore.of_eq (s := s) (t := pushResponse a s) rfl rfl rfl).trans (holdsNoMore_dropBlocker a.tag _)).trans
      (holdsNoMore_dropRead a.tag _)
  have table : ∀ u, tagState (answerRead a s) u = tagState (pushResponse a s) u := fun _ => rfl
  have notResponding : tagState s a.tag ≠ .responding := by
    rintro e; simp [WaitsForRead, e, TagState.isDirect] at ha
  have gone : Unheld (answerRead a s) a.tag := by
    obtain ⟨-, -, ⟨-, fences⟩, waiters⟩ := h
    refine ⟨fun r hr => ?_, fun f hf e => ?_, fun i hi => ?_⟩
    · simpa using (List.mem_filter.1 hr).2
    · have : tagState s a.tag = .fence := e ▸ fences f hf
      simp [WaitsForRead, this, TagState.isDirect] at ha
    · have : tagState s a.tag = .confirmWrite :=
        (((waitersWhole_iff s).1 waiters).1 i).2 _ ((k.waiters i).subset hi)
      simp [WaitsForRead, this, TagState.isDirect] at ha
  have responses : ResponsesWhole (answerRead a s) := (h.1.pushResponse_new notResponding).of_eq rfl rfl
  refine .of_parts responses (h.units.of_retag k fun u => ?_)
  by_cases e : a.tag = u
  · exact .inr (e ▸ gone)
  · exact .inl (by simp [table, tagState_pushResponse, e])

theorem keepsTags_answerRead_old {s : State} {a : Response} {t : Tag} {r : ReadRecord} (h : readOf s t = some r)
    (ha : a.tag = r.tag) : KeepsTags s (answerRead a s) := fun w =>
  keepsTags_answerRead (ha ▸ w.waitsForRead h) w

/-! ### The prefetch buffer -/

theorem keepsTags_fallBack (t : Tag) (s : State) : KeepsTags s (fallBack t s) := by
  unfold fallBack; split
  · next r hr =>
    exact (keepsTags_putRead_old (r := { r with state := .waitGrant }) hr rfl (by simp [ReadRecord.onDirectPath])).trans
      (.of_frame (frame_offer _ _ _))
  · exact .refl s

theorem keepsTags_fallBackAll (ts : List Tag) (s : State) : KeepsTags s (fallBackAll ts s) :=
  .foldl _ (fun u t => keepsTags_fallBack t u) ts s

theorem keepsTags_spoilEntry (e : PfIx) (s : State) : KeepsTags s (spoilEntry e s) := by
  unfold spoilEntry; split
  · exact .refl s
  · split
    · exact .of_frame (frame_emptyPf _ s)
    · exact ((KeepsTags.of_frame (frame_withdraw _ _ s)).trans (.of_frame (frame_emptyPf _ _))).trans
        (keepsTags_fallBackAll _ _)
    · exact .of_frame (frame_putPf _ _ s)
    · exact .refl s

theorem keepsTags_writeReport (l : Line) (s : State) : KeepsTags s (writeReport l s) := by
  unfold writeReport; split
  · exact keepsTags_spoilEntry _ s
  · exact .refl s

theorem keepsTags_invalidate (s : State) : KeepsTags s (invalidate s) :=
  (KeepsTags.foldl _ (fun u e => keepsTags_spoilEntry e u) allPf s).trans (.of_frame (frame_setPf _ _))

theorem keepsTags_readTrigger (r : ReadRecord) (s : State) : KeepsTags s (readTrigger r s) :=
  .of_frame (frame_readTrigger r s)

/-! ### Reads -/

theorem keepsTags_demandRead {r : ReadRecord} {s : State} (h : WaitsForRead s r.tag) :
    KeepsTags s (demandRead r s) :=
  (keepsTags_putRead (r := { r with state := .waitGrant }) h (by simp [ReadRecord.onDirectPath])).trans
    (.of_frame (frame_offer _ _ _))

theorem keepsTags_joinRead {r : ReadRecord} {s : State} (h : WaitsForRead s r.tag) (e : PfIx) (x : PfEntry)
    (st : PfState) : KeepsTags s (joinRead r e x st s) :=
  (KeepsTags.of_frame (frame_putPf e _ s)).trans
    (keepsTags_putRead (r := { r with state := .joined e }) h (by simp [ReadRecord.onDirectPath]))

theorem keepsTags_serveRead {r : ReadRecord} {s : State} (h : WaitsForRead s r.tag) (e : PfIx) (d : Lanes) :
    KeepsTags s (serveRead r e d s) :=
  ((keepsTags_answerRead (a := readData r d) h).trans (.of_frame (frame_markMru _ _))).trans
    (keepsTags_readTrigger _ _)

theorem keepsTags_routeRead {r : ReadRecord} {s : State} (h : WaitsForRead s r.tag) :
    KeepsTags s (routeRead r s) := by
  unfold routeRead; split
  · split
    · exact keepsTags_demandRead h
    · split
      · exact keepsTags_demandRead h
      · split
        · exact keepsTags_serveRead h _ _
        · exact keepsTags_joinRead h _ _ _
        · exact keepsTags_joinRead h _ _ _
        · exact keepsTags_demandRead h
  · exact keepsTags_demandRead h

theorem keepsTags_releaseRead (i : SlotIx) (t : Tag) (s : State) : KeepsTags s (releaseRead i t s) := by
  unfold releaseRead; split
  · exact .refl s
  · next r hr =>
    split
    · split
      · dsimp only
        split
        · exact fun w => keepsTags_routeRead (w.waitsForRead hr) w
        · exact keepsTags_putRead_old hr rfl (by simp [ReadRecord.onDirectPath])
      · exact .refl s
    all_goals exact .refl s

theorem keepsTags_releaseReads (i : SlotIx) (s : State) : KeepsTags s (releaseReads i s) :=
  .foldl _ (fun u t => keepsTags_releaseRead i t u) _ s

theorem onDirectPath_of_isHeld {r : ReadRecord} (h : r.isHeld = true) : r.onDirectPath = true := by
  unfold ReadRecord.isHeld at h
  unfold ReadRecord.onDirectPath
  split <;> simp_all

/-- A record on the DIRECT path may be replaced by one of the same tag. -/
theorem keepsTags_putRead_direct {s : State} {r q : ReadRecord} (hq : q ∈ s.rd.reads) (ht : r.tag = q.tag)
    (hd : q.onDirectPath = true) : KeepsTags s (putRead r s) := fun w =>
  have h := w.2.1.2 q hq
  keepsTags_putRead (ht ▸ h.1) (fun _ => ht ▸ h.2 hd) w

theorem keepsTags_directTest (s : State) : KeepsTags s (directTest s) := by
  unfold directTest; split
  · split
    · next r hr =>
      exact (keepsTags_putRead_direct (r := { r with state := .directWait (.released (directPieces r)) false })
        (List.mem_of_find?_eq_some hr) rfl (onDirectPath_of_isHeld (List.find?_some hr))).trans
        (.of_frame (frame_offer _ _ _))
    · exact .refl s
  · exact .refl s

/-! ### Fences and the end of a slot -/

/-- R71: the completed fence is the oldest one. -/
theorem keepsTags_completeFence {f : FenceRecord} {rest : List FenceRecord} {s : State}
    (hl : s.fence.list = f :: rest) : KeepsTags s (completeFence f rest s) := fun h => by
  have k : HoldsNoMore s (completeFence f rest s) :=
    ⟨.refl _, fun r hr hd => ⟨r, hr, rfl, hd⟩, hl ▸ (List.sublist_cons_self f rest).map _, fun _ => .refl _⟩
  have table : ∀ u, tagState (completeFence f rest s) u = tagState (pushResponse (.fack f.tag s.fence.loss) s) u :=
    fun _ => rfl
  obtain ⟨fNodup, fTag⟩ := h.2.2.1
  have hf : tagState s f.tag = .fence := fTag f (hl ▸ List.mem_cons_self)
  have gone : Unheld (completeFence f rest s) f.tag := by
    refine ⟨fun r hr e => ?_, fun g hg e => ?_, fun i hi => ?_⟩
    · have := (h.2.1.2 r hr).1
      simp [e, hf, TagState.isDirect] at this
    · rw [hl, List.map_cons, List.nodup_cons] at fNodup
      exact fNodup.1 (List.mem_map.2 ⟨g, hg, e⟩)
    · have := (((waitersWhole_iff s).1 h.2.2.2).1 i).2 _ ((k.waiters i).subset hi)
      simp [hf] at this
  have responses : ResponsesWhole (completeFence f rest s) :=
    (h.1.pushResponse_new (r := .fack f.tag s.fence.loss) (by simp [Response.tag, hf])).of_eq rfl rfl
  refine .of_parts responses (h.units.of_retag k fun u => ?_)
  by_cases e : f.tag = u
  · exact .inr (e ▸ gone)
  · exact .inl (by simp [table, tagState_pushResponse, Response.tag, e])

theorem keepsTags_fenceTestFrom (l : List FenceRecord) (s : State) (hl : s.fence.list = l) :
    KeepsTags s (fenceTestFrom l s) := by
  induction l generalizing s with
  | nil => exact .refl s
  | cons f rest ih =>
    unfold fenceTestFrom; split
    · exact .refl s
    · exact (keepsTags_completeFence hl).trans (ih _ rfl)

theorem keepsTags_fenceTest (s : State) : KeepsTags s (fenceTest s) := keepsTags_fenceTestFrom _ s rfl

theorem waiterAnswer_tag (lost : Bool) (t : Tag) : (waiterAnswer lost t).tag = t := by
  cases lost <;> rfl

/-- Tags of their own that no unit holds, none of them answered yet, may be answered one after the other. -/
theorem TagsWhole.pushAll {s : State} (h : TagsWhole s) (lost : Bool) (ts : List Tag) (nodup : ts.Nodup)
    (un : ∀ t ∈ ts, Unheld s t) (ht : ∀ t ∈ ts, tagState s t ≠ .responding) :
    TagsWhole (ts.foldl (fun u t => pushResponse (waiterAnswer lost t) u) s) := by
  induction ts generalizing s with
  | nil => exact h
  | cons t ts ih =>
    obtain ⟨fresh, nodup⟩ := List.nodup_cons.1 nodup
    have w : TagsWhole (pushResponse (waiterAnswer lost t) s) :=
      h.pushResponse_unheld (by rw [waiterAnswer_tag]; exact un t List.mem_cons_self)
        (by rw [waiterAnswer_tag]; exact ht t List.mem_cons_self)
    refine ih w nodup (fun u hu => ?_) fun u hu => ?_
    · exact (un u (List.mem_cons_of_mem t hu)).of_holdsNoMore (.of_eq rfl rfl rfl)
    · have ne : t ≠ u := fun e => fresh (e ▸ hu)
      simpa [tagState_pushResponse, waiterAnswer_tag, ne] using ht u (List.mem_cons_of_mem t hu)

theorem waitersAt_emptySlot (i j : SlotIx) (s : State) :
    waitersAt (emptySlot i s) j = if i = j then [] else waitersAt s j := by
  have h : slotAt (emptySlot i s) j = slotAt (putSlot i none s) j := rfl
  unfold waitersAt
  rw [h]
  exact waitersAt_putSlot i j none s

theorem holdsNoMore_emptySlot (i : SlotIx) (s : State) : HoldsNoMore s (emptySlot i s) where
  reads := .refl _
  direct := fun r hr hd => ⟨r, hr, rfl, hd⟩
  fences := .refl _
  waiters := fun j => by
    rw [waitersAt_emptySlot]
    split
    · exact List.nil_sublist _
    · exact .refl _

/-- Answering the waiters and emptying the slot act on different blocks. -/
theorem emptySlot_answerWaiters (i : SlotIx) (x : Slot) (s : State) :
    emptySlot i (answerWaiters x s) = answerWaiters x (emptySlot i s) := by
  unfold answerWaiters
  induction x.waiters generalizing s with
  | nil => rfl
  | cons t ts ih => exact ih _

theorem keepsTags_emptying {i : SlotIx} {x : Slot} {s : State} (hx : slotAt s i = some x) :
    KeepsTags s (emptySlot i (answerWaiters x s)) := fun h => by
  rw [emptySlot_answerWaiters]
  have emptied : TagsWhole (emptySlot i s) := KeepsTags.of_holdsNoMore (holdsNoMore_emptySlot i s) rfl rfl h
  obtain ⟨own, apart⟩ := (waitersWhole_iff s).1 h.2.2.2
  have waiting : ∀ t ∈ x.waiters, tagState s t = .confirmWrite := by
    simpa only [waitersAt_of_some hx] using (own i).2
  refine emptied.pushAll x.lost x.waiters (by simpa only [waitersAt_of_some hx] using (own i).1)
    (fun t ht => ⟨fun r hr e => ?_, fun f hf e => ?_, fun j hj => ?_⟩) fun t ht => ?_
  · have := (h.2.1.2 r hr).1
    simp [e, waiting t ht, TagState.isDirect] at this
  · have := h.2.2.1.2 f hf
    simp [e, waiting t ht] at this
  · rw [waitersAt_emptySlot] at hj
    split at hj
    · simp at hj
    · next ne => exact ne (apart i j t (by rwa [waitersAt_of_some hx]) hj)
  · have same : tagState (emptySlot i s) t = tagState s t := rfl
    simp [same, waiting t ht]

theorem keepsTags_completeSlot {i : SlotIx} {x : Slot} {s : State} (hx : slotAt s i = some x) :
    KeepsTags s (completeSlot i x s) :=
  (((keepsTags_emptying hx).trans (keepsTags_releaseReads i _)).trans (keepsTags_fenceTest _)).trans
    (keepsTags_directTest _)

theorem keepsTags_completeIfResolved (i : SlotIx) (s : State) : KeepsTags s (completeIfResolved i s) := by
  unfold completeIfResolved; split
  · next x hx =>
    split
    · exact keepsTags_completeSlot hx
    · exact .refl s
  · exact .refl s

theorem keepsTags_reportLoss (r : LossRecord) (s : State) : KeepsTags s (reportLoss r s) :=
  (KeepsTags.of_frame (frame_addLoss r s)).trans
    (.of_holdsNoMore ⟨.refl _, fun q hq hd => ⟨q, hq, rfl, hd⟩, .refl _, fun _ => .refl _⟩ rfl rfl)

theorem keepsTags_pieceDone (i : SlotIx) (k : Fin 8) (s : State) : KeepsTags s (pieceDone i k s) := by
  unfold pieceDone; split
  · next x hx =>
    split
    · exact (keepsTags_putSlot (y := x.mark k.val .done) hx rfl).trans (keepsTags_completeIfResolved _ _)
    · exact .refl s
  · exact .refl s

theorem keepsTags_pieceLost (i : SlotIx) (k : Fin 8) (cause : LossCause) (a : Nat) (s : State) :
    KeepsTags s (pieceLost i k cause a s) := by
  unfold pieceLost; split
  · next x hx =>
    split
    · exact ((keepsTags_putSlot (y := x.mark k.val .lost) hx rfl).trans (keepsTags_reportLoss _ _)).trans
        (keepsTags_completeIfResolved _ _)
    · exact .refl s
  · exact .refl s

end Sys2Proof.Machine
end

section
/-! PROOFS. Every event keeps the tags whole: acceptance, grants, reports, timers, resets, the port (O59). -/

namespace Sys2Proof.Machine

set_option Elab.async false

/-! ### The quiesce controller -/

theorem keepsTags_setResult (r : CommandResult) (s : State) : KeepsTags s (setResult r s) := keepsTags_setPort s _

theorem keepsTags_returnToRun (s : State) : KeepsTags s (returnToRun s) := keepsTags_setQuiesce s _

theorem keepsTags_applyCommit (s : State) : KeepsTags s (applyCommit s) :=
  ((((KeepsTags.of_frame (frame_setWin s _)).trans (keepsTags_invalidate _)).trans (keepsTags_setQuiesce _ _)).trans
    (keepsTags_setResult _ _)).trans (.of_frame (frame_setIrqBit _ _))

theorem keepsTags_enterQuiet (s : State) : KeepsTags s (enterQuiet s) := by
  unfold enterQuiet
  dsimp only
  have quiet : KeepsTags s (s.setQuiesce { s.quiesce with state := .quiet }) := keepsTags_setQuiesce s _
  split
  · have committed := quiet.trans (keepsTags_applyCommit _)
    split
    · exact committed.trans (keepsTags_setQuiesce _ _)
    · exact committed.trans (keepsTags_returnToRun _)
  · split
    · exact quiet.trans (keepsTags_setQuiesce _ _)
    · exact quiet.trans (keepsTags_returnToRun _)

theorem keepsTags_quietTest (s : State) : KeepsTags s (quietTest s) := by
  unfold quietTest; split
  · exact keepsTags_enterQuiet s
  · exact .refl s

theorem keepsTags_quiesceStart (s : State) : KeepsTags s (quiesceStart s) :=
  (((keepsTags_sealAll s).trans (keepsTags_invalidate _)).trans (keepsTags_setQuiesce _ _)).trans
    (keepsTags_quietTest _)

/-! ### Acceptance of a request whose tag is FREE -/

/-- A FREE tag comes to wait: no unit holds it yet. -/
theorem TagsWhole.setTag_of_free {s : State} {t : Tag} {x : TagState} (h : TagsWhole s) (ht : tagState s t = .free)
    (hx : x ≠ .responding) : TagsWhole (setTag t x s) :=
  h.setTag_unheld (h.unheld_of_free ht) (by simp [ht]) hx

/-- A request with a FREE tag is answered at its acceptance. -/
theorem TagsWhole.pushResponse_of_free {s : State} {r : Response} (h : TagsWhole s) (ht : tagState s r.tag = .free) :
    TagsWhole (pushResponse r s) :=
  h.pushResponse_unheld (h.unheld_of_free ht) (by simp [ht])

theorem waitersAt_addWaiter (i j : SlotIx) (t : Tag) (s : State) :
    waitersAt (addWaiter i t s) j =
      if i = j ∧ (slotAt s i).isSome then waitersAt s j ++ [t] else waitersAt s j := by
  unfold addWaiter
  cases hx : slotAt s i with
  | none => simp
  | some x =>
    by_cases e : i = j
    · subst e; simp [waitersAt_putSlot, waitersAt_of_some hx]
    · simp [waitersAt_putSlot, e]

/-- A tag in CONFIRM_WRITE that waits on no slot comes to wait on one. -/
theorem keepsTags_addWaiter {s : State} {t : Tag} (i : SlotIx) (ht : tagState s t = .confirmWrite)
    (fresh : ∀ j, t ∉ waitersAt s j) : KeepsTags s (addWaiter i t s) := by
  rintro ⟨responses, reads, fences, waiters⟩
  have f := frame_addWaiter i t s
  have acc : (addWaiter i t s).acc = s.acc := f.same .acc
  have fence : (addWaiter i t s).fence = s.fence := f.same .fence
  have rd : (addWaiter i t s).rd = s.rd := f.same .rd
  refine ⟨by simpa only [ResponsesWhole, tagState, acc] using responses,
    by simpa only [ReadsWhole, tagState, acc, rd] using reads,
    by simpa only [FencesWhole, tagState, acc, fence] using fences, (waitersWhole_iff _).2 ?_⟩
  obtain ⟨own, apart⟩ := (waitersWhole_iff s).1 waiters
  have mem : ∀ j u, u ∈ waitersAt (addWaiter i t s) j → u ∈ waitersAt s j ∨ i = j ∧ u = t := by
    intro j u hu
    rw [waitersAt_addWaiter] at hu
    split at hu
    · next here => simpa [here.1] using hu
    · exact .inl hu
  refine ⟨fun j => ⟨?_, fun u hu => ?_⟩, fun j k u hj hk => ?_⟩
  · rw [waitersAt_addWaiter]
    split
    · exact List.nodup_append'.2 ⟨(own j).1, by simp, by simpa using fresh j⟩
    · exact (own j).1
  · simp only [tagState, acc]
    obtain hu | ⟨-, rfl⟩ := mem j u hu
    · exact (own j).2 u hu
    · exact ht
  · obtain oldJ | ⟨rfl, rfl⟩ := mem j u hj
    · obtain oldK | ⟨-, rfl⟩ := mem k u hk
      · exact apart j k u oldJ oldK
      · exact absurd oldJ (fresh j)
    · obtain oldK | ⟨rfl, -⟩ := mem k u hk
      · exact absurd oldK (fresh k)
      · rfl

/-- The tag table and the waiter lists stand in different blocks. -/
theorem setTag_addWaiter (i : SlotIx) (t : Tag) (x : TagState) (s : State) :
    setTag t x (addWaiter i t s) = addWaiter i t (setTag t x s) := by
  have same : slotAt (setTag t x s) i = slotAt s i := rfl
  unfold addWaiter
  rw [same]
  cases slotAt s i <;> rfl

theorem TagsWhole.answerWrite_of_free {s : State} {r : Request} (h : TagsWhole s) (i : SlotIx)
    (ht : tagState s r.tag = .free) : TagsWhole (answerWrite i r s) := by
  unfold answerWrite; split
  · rw [setTag_addWaiter]
    have w : TagsWhole (setTag r.tag .confirmWrite s) := h.setTag_of_free ht (by simp)
    exact keepsTags_addWaiter i (by simp [tagState_setTag]) (fun j => (h.unheld_of_free ht).waiters j) w
  · exact h.pushResponse_of_free (r := .wackOk r.tag) ht

theorem keepsTags_sealTriggers (i : SlotIx) (r : Request) (c : Classification) (s : State) :
    KeepsTags s (sealTriggers i r c s) := by
  unfold sealTriggers; split
  · exact keepsTags_sealSlot i s
  · exact .refl s

theorem TagsWhole.finishWrite_of_free {s : State} {r : Request} (h : TagsWhole s) (i : SlotIx) (c : Classification)
    (ht : tagState s r.tag = .free) : TagsWhole (finishWrite i r c s) :=
  keepsTags_writeReport _ _ (keepsTags_sealTriggers i r c _ (h.answerWrite_of_free i ht))

theorem keepsTags_mergeSlot (i : SlotIx) (r : Request) (s : State) : KeepsTags s (mergeSlot i r s) := by
  unfold mergeSlot; split
  · next x hx => exact keepsTags_putSlot hx rfl
  · exact .refl s

theorem keepsTags_openSlot (i : SlotIx) (r : Request) (c : Classification) (s : State) :
    KeepsTags s (openSlot i r c s) := by
  refine .of_holdsNoMore ⟨.refl _, fun q hq hd => ⟨q, hq, rfl, hd⟩, .refl _, fun j => ?_⟩ rfl rfl
  have opened : waitersAt (openSlot i r c s) j = waitersAt (putSlot i (some (openedSlot r c s)) s) j := rfl
  rw [opened, waitersAt_putSlot]
  split
  · exact List.nil_sublist _
  · exact .refl _

theorem TagsWhole.acceptWrite_of_free {s : State} {r : Request} (h : TagsWhole s) (m : IReqMsg) (c : Classification)
    (ht : tagState s r.tag = .free) : TagsWhole (acceptWrite m r c s) := by
  have taken := keepsTags_takeHead s h
  unfold acceptWrite; split
  · next i hi =>
    refine (keepsTags_mergeSlot i r _ taken).finishWrite_of_free i c ?_
    have acc : (mergeSlot i r (takeHead s)).acc = (takeHead s).acc := (frame_mergeSlot i r _).same .acc
    rw [tagState, acc]
    exact ht
  · split
    · next i hi => exact (keepsTags_openSlot i r c _ taken).finishWrite_of_free i c ht
    · exact keepsTags_setHead _ _ (keepsTags_pressureSeal s h)

theorem TagsWhole.acceptRead_of_free {s : State} {r : Request} (h : TagsWhole s) (c : Classification)
    (ht : tagState s r.tag = .free) : TagsWhole (acceptRead r c s) := by
  have w : TagsWhole (setTag r.tag .read (takeHead s)) :=
    (keepsTags_takeHead s h).setTag_of_free ht (by simp)
  have waits : WaitsForRead (setTag r.tag .read (takeHead s)) r.tag := .inl (by simp [tagState_setTag])
  unfold acceptRead
  dsimp only
  split
  · split
    · exact keepsTags_answerRead (a := readData (readRecord r c .waitGrant) _) waits w
    · exact keepsTags_sealLine _ _
        (keepsTags_putRead (r := readRecord r c _) waits (by simp [readRecord, ReadRecord.onDirectPath]) w)
  · exact keepsTags_routeRead (r := readRecord r c .waitGrant) waits w

theorem keepsTags_addFence {s : State} {t : Tag} (e : BitVec 8) (ht : tagState s t = .fence)
    (fresh : ∀ f ∈ s.fence.list, f.tag ≠ t) (n : BitVec 8) (loss : Bool) :
    KeepsTags s (s.setFence { epoch := n, list := s.fence.list ++ [{ tag := t, epoch := e }], loss := loss }) := by
  rintro ⟨responses, reads, ⟨nodup, tag⟩, waiters⟩
  refine ⟨responses, reads, ⟨?_, fun f hf => ?_⟩, waiters⟩
  · rw [State.setFence_fence, List.map_append]
    exact List.nodup_append'.2 ⟨nodup, by simp, by simpa using fresh⟩
  · obtain hf | hf := List.mem_append.1 hf
    · exact tag f hf
    · rw [List.mem_singleton.1 hf]; exact ht

theorem TagsWhole.acceptFence_of_free {s : State} {r : Request} (h : TagsWhole s) (m : IReqMsg)
    (ht : tagState s r.tag = .free) : TagsWhole (acceptFence m r s) := by
  unfold acceptFence; split
  · have w : TagsWhole (setTag r.tag .fence (takeHead s)) :=
      (keepsTags_takeHead s h).setTag_of_free ht (by simp)
    have f := frame_sealAll (setTag r.tag .fence (takeHead s))
    have acc := f.same .acc
    have fence := f.same .fence
    refine keepsTags_fenceTest _ (keepsTags_addFence _ ?_ ?_ _ _ (keepsTags_sealAll _ w))
    · rw [tagState, acc]
      exact (tagState_setTag r.tag r.tag .fence _).trans (if_pos rfl)
    · rw [fence]
      exact (h.unheld_of_free ht).fences
  · exact keepsTags_setHead _ s h

theorem TagsWhole.acceptDirect_of_free {s : State} {r : Request} (h : TagsWhole s) (op : AccessOp) (c : Classification)
    (ht : tagState s r.tag = .free) : TagsWhole (acceptDirect op r c s) := by
  have w : TagsWhole (setTag r.tag (.direct op) (takeHead s)) :=
    (keepsTags_takeHead s h).setTag_of_free ht (by simp)
  have direct : (tagState (setTag r.tag (.direct op) (takeHead s)) r.tag).isDirect = true := by
    simp [tagState_setTag, TagState.isDirect]
  have sealed := keepsTags_sealAll _ (keepsTags_putRead (r := directRecord op r c) (.inr direct) (fun _ => direct) w)
  unfold acceptDirect
  cases op
  · exact keepsTags_directTest _ sealed
  · exact keepsTags_directTest _ (keepsTags_writeReport _ _ sealed)

theorem errorAnswer_tag (r : Request) (why : Reason) : (errorAnswer r why).tag = r.tag := by
  unfold errorAnswer; split <;> rfl

theorem TagsWhole.errorAnswer_of_free {s : State} {r : Request} (h : TagsWhole s) (why : Reason)
    (ht : tagState s r.tag = .free) : TagsWhole (pushResponse (errorAnswer r why) (takeHead s)) :=
  (keepsTags_takeHead s h).pushResponse_of_free (by rw [errorAnswer_tag]; exact ht)

theorem keepsTags_offerRequestError (k : RequestError) (t : Tag) (s : State) :
    KeepsTags s (offerRequestError k t s) := by
  unfold offerRequestError; split
  · exact keepsTags_setAcc rfl rfl
  · exact .refl s

theorem keepsTags_setIrqBit (b : IrqBit) (s : State) : KeepsTags s (setIrqBit b s) := .of_frame (frame_setIrqBit b s)

theorem TagsWhole.dispatchAccess_of_free {s : State} {r : Request} (h : TagsWhole s) (op : AccessOp) (m : IReqMsg)
    (ht : tagState s r.tag = .free) : TagsWhole (dispatchAccess op m r s) := by
  unfold dispatchAccess
  dsimp only
  split
  · exact h.errorAnswer_of_free .rejected ht
  · exact h.acceptDirect_of_free _ _ ht
  · exact h.acceptWrite_of_free m _ ht
  · exact h.acceptWrite_of_free m _ ht
  · exact h.acceptRead_of_free _ ht
  · exact h.acceptRead_of_free _ ht

theorem TagsWhole.dispatch_of_free {s : State} {r : Request} (h : TagsWhole s) (m : IReqMsg)
    (ht : tagState s r.tag = .free) : TagsWhole (dispatch m r s) := by
  unfold dispatch; split
  · exact h.acceptFence_of_free m ht
  · exact h.dispatchAccess_of_free .read m ht
  · exact h.dispatchAccess_of_free .write m ht
  · exact h

theorem keepsTags_examine (m : IReqMsg) (s : State) : KeepsTags s (examine m s) := by
  unfold examine
  dsimp only
  split
  · exact keepsTags_setHead _ s
  · split
    · exact ((keepsTags_takeHead s).trans (keepsTags_offerRequestError _ _ _)).trans (keepsTags_setIrqBit _ _)
    · next ht =>
      have ht : tagState s (decodeRequest m).tag = .free := by simpa using ht
      split
      · exact fun h => keepsTags_setIrqBit _ _ (keepsTags_offerRequestError _ _ _ (h.errorAnswer_of_free .malformed ht))
      · exact fun h => h.dispatch_of_free m ht

theorem keepsTags_finishEvent (s0 s : State) : KeepsTags s (finishEvent s0 s) := by
  refine KeepsTags.trans (t := reexamine s0 s) ?_ (keepsTags_drainTest _)
  unfold reexamine; split
  · split
    · exact keepsTags_examine _ s
    · exact .refl s
  · exact .refl s

theorem keepsTags_present (msg : Option IReqMsg) (s : State) : KeepsTags s (present msg s) := by
  unfold present; split
  · exact (keepsTags_examine _ s).trans (keepsTags_drainTest _)
  · exact keepsTags_setHead none s

/-- R179: the tag of the response sent becomes FREE, and only its response leaves the queue. -/
theorem keepsTags_sendResponse (s : State) : KeepsTags s (sendResponse s) := by
  unfold sendResponse; split
  · exact .refl s
  · next r rest hq =>
    refine KeepsTags.trans (t := setTag r.tag .free (s.setAcc { s.acc with queue := rest })) (fun h => ?_)
      (keepsTags_setWires _ _)
    obtain ⟨nodup, mem⟩ := h.1
    rw [hq, List.map_cons, List.nodup_cons] at nodup
    have k : HoldsNoMore s (setTag r.tag .free (s.setAcc { s.acc with queue := rest })) := .of_eq rfl rfl rfl
    have head : tagState s r.tag = .responding := (mem r.tag).1 (by simp [hq])
    have same : ∀ u, tagState (s.setAcc { s.acc with queue := rest }) u = tagState s u := fun _ => rfl
    refine .of_parts ⟨nodup.2, fun u => ?_⟩ (h.units.of_retag k fun u => ?_)
    · have queue : (setTag r.tag .free (s.setAcc { s.acc with queue := rest })).acc.queue = rest := rfl
      have mem := mem u
      rw [hq, List.map_cons, List.mem_cons] at mem
      rw [queue, tagState_setTag, same]
      by_cases e : r.tag = u
      · subst e; simpa using nodup.1
      · simpa [e, Ne.symm e] using mem
    · by_cases e : r.tag = u
      · exact .inr (e ▸ (h.unheld_of_responding head).of_holdsNoMore k)
      · exact .inl (by simp [tagState_setTag, same, e])

/-! ### Grants -/

theorem keepsTags_sendFirst (req : MemRequest) (s : State) : KeepsTags s (sendFirst req s) :=
  .of_frame (frame_sendFirst req s)

theorem slotAt_sendFirst (req : MemRequest) (s : State) (i : SlotIx) : slotAt (sendFirst req s) i = slotAt s i := by
  have buf : (sendFirst req s).buf = s.buf := (frame_sendFirst req s).same .buf
  rw [slotAt, slotAt, buf]

theorem readOf_sendFirst (req : MemRequest) (s : State) (t : Tag) : readOf (sendFirst req s) t = readOf s t := by
  have rd : (sendFirst req s).rd = s.rd := (frame_sendFirst req s).same .rd
  rw [readOf, readOf, rd]

theorem keepsTags_grantPiece {i : SlotIx} {x : Slot} {s : State} (hx : slotAt s i = some x) (k : Nat) (p : Piece) :
    KeepsTags s (grantPiece i x k p s) := by
  unfold grantPiece
  dsimp only
  have issued := fun req => (keepsTags_sendFirst req s).trans
    (keepsTags_putSlot (y := x.mark k .issued) ((slotAt_sendFirst req s i).trans hx) rfl)
  split
  · exact (issued _).trans (.of_frame (frame_offer _ _ _))
  · exact (issued _).trans (keepsTags_drainTest _)

theorem keepsTags_grantDrainHead (s : State) : KeepsTags s (grantDrainHead s) := by
  unfold grantDrainHead; split
  · exact .refl s
  · split
    · exact .refl s
    · next x hx =>
      split
      · exact keepsTags_grantPiece hx _ _
      · exact .refl s

theorem keepsTags_grantRead (t : Tag) (s : State) : KeepsTags s (grantRead t s) := by
  unfold grantRead; split
  · next r hr =>
    exact ((keepsTags_sendFirst _ s).trans (keepsTags_putRead_old (r := { r with state := .issued })
      ((readOf_sendFirst _ s t).trans hr) rfl (by simp [ReadRecord.onDirectPath]))).trans (keepsTags_readTrigger _ _)
  · exact .refl s

theorem onDirectPath_of_released {r : ReadRecord} {ps : List Piece} (h : r.released = some ps) :
    r.onDirectPath = true := by
  unfold ReadRecord.released at h
  unfold ReadRecord.onDirectPath
  split <;> simp_all

theorem keepsTags_grantDirectPiece {r : ReadRecord} {s : State} {ps : List Piece} (hr : r ∈ s.rd.reads)
    (hp : r.released = some ps) (d : Lanes) (k : Nat) (p : Piece) :
    KeepsTags s (grantDirectPiece r d ps k p s) := by
  unfold grantDirectPiece
  dsimp only
  have put := fun req st => (keepsTags_sendFirst req s).trans
    (keepsTags_putRead_direct (r := { r with state := st }) (q := r)
      (by rwa [show (sendFirst req s).rd = s.rd from (frame_sendFirst req s).same .rd]) rfl
      (onDirectPath_of_released hp))
  split
  · exact (put _ _).trans (.of_frame (frame_offer _ _ _))
  · exact put _ _

theorem keepsTags_grantDirect (s : State) : KeepsTags s (grantDirect s) := by
  unfold grantDirect; split
  · exact .refl s
  · next r hr =>
    split
    · exact keepsTags_sendFirst _ s
    · split
      · exact .refl s
      · next ps hp =>
        split
        · exact keepsTags_grantDirectPiece (List.mem_of_find?_eq_some hr) hp _ _ _
        · exact .refl s

theorem keepsTags_grantPrefetch (e : PfIx) (s : State) : KeepsTags s (grantPrefetch e s) := by
  unfold grantPrefetch; split
  · exact .refl s
  · split
    · exact (keepsTags_sendFirst _ s).trans (.of_frame (frame_putPf _ _ _))
    all_goals exact .refl s

theorem keepsTags_grantStep (s : State) : KeepsTags s (grantStep s) := by
  unfold grantStep; split
  · split
    · next c r _ =>
      refine (KeepsTags.of_frame (frame_withdraw c r s)).trans ?_
      unfold grantRequest; split
      · exact keepsTags_grantDrainHead _
      · exact keepsTags_grantRead _ _
      · exact keepsTags_grantDirect _
      · exact keepsTags_grantPrefetch _ _
      · exact .of_frame (frame_grantReissue _ _)
    · exact .refl s
  · exact .refl s

/-! ### The tracker's reports -/

theorem keepsTags_answerJoined (d : Lanes) (s : State) (t : Tag) : KeepsTags s (answerJoined d s t) := by
  unfold answerJoined; split
  · next r hr => exact keepsTags_answerRead_old hr rfl
  · exact .refl s

theorem keepsTags_answerJoins (d : Lanes) (ts : List Tag) (s : State) : KeepsTags s (answerJoins d ts s) :=
  .foldl _ (keepsTags_answerJoined d) ts s

theorem keepsTags_prefetchDone (e : PfIx) (d : Lanes) (s : State) : KeepsTags s (prefetchDone e d s) := by
  unfold prefetchDone; split
  · exact .refl s
  · split
    · unfold prefetchArrived
      dsimp only
      have answered := fun x joins => ((KeepsTags.of_frame (frame_putPf e x s)).trans
        (.of_frame (frame_markMru e _))).trans (keepsTags_answerJoins d joins _)
      split
      · exact answered _ _
      · exact (answered _ _).trans (.of_frame (frame_trigger _ _ _))
    · exact (keepsTags_answerJoins _ _ s).trans (.of_frame (frame_emptyPf _ _))
    all_goals exact .refl s

theorem keepsTags_prefetchLost (e : PfIx) (s : State) : KeepsTags s (prefetchLost e s) := by
  unfold prefetchLost; split
  · exact .refl s
  · split
    · exact (KeepsTags.of_frame (frame_emptyPf _ s)).trans (keepsTags_fallBackAll _ _)
    · exact (KeepsTags.of_frame (frame_emptyPf _ s)).trans (keepsTags_fallBackAll _ _)
    all_goals exact .refl s

theorem keepsTags_directReport {f : ReadRecord → Response} (hf : ∀ r, (f r).tag = r.tag) (t : Tag) (k : Fin 8)
    (o : PieceOutcome) (s : State) : KeepsTags s (directReport t k f o s) := by
  unfold directReport; split
  · exact .refl s
  · next r hr =>
    split
    · exact keepsTags_answerRead_old hr (hf r)
    · split
      · next ps hp =>
        unfold directPieceEnds
        dsimp only
        split
        · exact keepsTags_answerRead_old hr (waiterAnswer_tag _ _)
        · exact keepsTags_putRead_direct (readOf_mem hr) rfl (onDirectPath_of_released hp)
      · exact .refl s

theorem keepsTags_reportDone (req : MemRequest) (d : Lanes) (s : State) : KeepsTags s (reportDone req d s) := by
  unfold reportDone; split
  · exact keepsTags_pieceDone _ _ s
  · exact keepsTags_answerJoined d s _
  · exact keepsTags_directReport (fun _ => rfl) _ _ _ s
  · exact keepsTags_prefetchDone _ d s

theorem keepsTags_reportGiveUp (req : MemRequest) (cause : LossCause) (a : Nat) (s : State) :
    KeepsTags s (reportGiveUp req cause a s) := by
  unfold reportGiveUp; split
  · exact keepsTags_pieceLost _ _ _ _ s
  · unfold readLost; split
    · next r hr => exact keepsTags_answerRead_old hr rfl
    · exact .refl s
  · exact keepsTags_directReport (fun _ => rfl) _ _ _ s
  · exact keepsTags_prefetchLost _ s

theorem keepsTags_settle (s0 s : State) : KeepsTags s (settle s0 s) :=
  (keepsTags_quietTest s).trans (keepsTags_finishEvent s0 _)

theorem keepsTags_giveUp (m : MemTag) (after : TrackerEntry) (req : MemRequest) (cause : LossCause) (a : Nat)
    (s : State) : KeepsTags s (giveUp m after req cause a s) :=
  ((keepsTags_reportGiveUp req cause a s).trans (.of_frame (frame_putEntry m after _))).trans (keepsTags_settle s _)

theorem keepsTags_absorb (m : MemTag) (s : State) : KeepsTags s (absorb m s) := .of_frame (frame_absorb m s)

theorem keepsTags_stray (m : MemTag) (s : State) : KeepsTags s (stray m s) := .of_frame (frame_stray m s)

theorem keepsTags_takeDone (m : MemTag) (d : Lanes) (s : State) : KeepsTags s (takeDone m d s) := by
  unfold takeDone; split
  · exact ((keepsTags_reportDone _ d s).trans (.of_frame (frame_putEntry m _ _))).trans (keepsTags_settle s _)
  · exact keepsTags_absorb m s
  all_goals exact keepsTags_stray m s

theorem keepsTags_takeDefer (m : MemTag) (s : State) : KeepsTags s (takeDefer m s) := by
  unfold takeDefer; split
  · unfold deferIssued; split
    · exact keepsTags_giveUp _ _ _ _ _ s
    · exact .of_frame (frame_putEntry m _ s)
  · exact keepsTags_absorb m s
  all_goals exact keepsTags_stray m s

theorem keepsTags_takeFault (m : MemTag) (s : State) : KeepsTags s (takeFault m s) := by
  unfold takeFault; split
  · exact keepsTags_giveUp _ _ _ _ _ s
  · exact keepsTags_absorb m s
  all_goals exact keepsTags_stray m s

/-! ### Timers -/

theorem keepsTags_responseExpires (m : MemTag) (s : State) : KeepsTags s (responseExpires m s) := by
  unfold responseExpires; split
  · split
    · exact keepsTags_giveUp _ _ _ _ _ s
    · exact .refl s
  all_goals exact .refl s

theorem keepsTags_backoffExpires (m : MemTag) (s : State) : KeepsTags s (backoffExpires m s) :=
  .of_frame (frame_backoffExpires m s)

theorem keepsTags_reclaimExpires (m : MemTag) (s : State) : KeepsTags s (reclaimExpires m s) :=
  .of_frame (frame_reclaimExpires m s)

theorem keepsTags_holdExpires (i : SlotIx) (s : State) : KeepsTags s (holdExpires i s) := by
  unfold holdExpires; split
  · split
    · split
      · exact (keepsTags_sealSlot i s).trans (keepsTags_drainTest _)
      · exact .refl s
    all_goals exact .refl s
  · exact .refl s

theorem tick_waiters (x : Slot) : x.tick.waiters = x.waiters := by
  unfold Slot.tick; split <;> rfl

theorem keepsTags_countTick (s : State) : KeepsTags s (countTick s) := by
  refine .of_waiters (frame_countTick s) fun i => ?_
  have h : slotAt (countTick s) i = (slotAt s i).map Slot.tick := by simp [slotAt, countTick]
  unfold waitersAt
  rw [h]
  cases slotAt s i with
  | none => rfl
  | some x => exact tick_waiters x

theorem keepsTags_entryExpires (m : MemTag) (s : State) : KeepsTags s (entryExpires m s) := by
  unfold entryExpires; split
  · exact keepsTags_responseExpires m s
  · exact keepsTags_backoffExpires m s
  · exact keepsTags_reclaimExpires m s
  all_goals exact .refl s

theorem keepsTags_tick (s : State) : KeepsTags s (tick s) :=
  (keepsTags_countTick s).trans
    ((KeepsTags.foldl _ (fun u i => keepsTags_holdExpires i u) _ _).trans
      (.foldl _ (fun u m => keepsTags_entryExpires m u) _ _))

/-! ### Resets -/

theorem keepsTags_takeDpReset (s : State) : KeepsTags s (takeDpReset s) := by
  unfold takeDpReset; split
  · exact (keepsTags_setResult .done s).trans
      (.of_holdsNoMore ⟨.refl _, fun q hq hd => ⟨q, hq, rfl, hd⟩, .refl _, fun _ => .refl _⟩ rfl rfl)
  · exact keepsTags_setResult .refused s

theorem resetAnswer_tag {t : Tag} {x : TagState} {r : Response} (h : resetAnswer t x = some r) : r.tag = t := by
  unfold resetAnswer at h
  split at h <;> simp at h <;> subst h <;> rfl

theorem resetAnswer_responding (t : Tag) : resetAnswer t .responding = none := rfl

/-- R17: the walk answers only tags that have no response yet. -/
theorem ResponsesWhole.answerReset_keeps {s : State} (h : ResponsesWhole s) (t : Tag) :
    ResponsesWhole (answerReset s t) := by
  unfold answerReset; split
  · next r hr =>
    refine h.pushResponse_new fun e => ?_
    rw [resetAnswer_tag hr] at e
    simp [e, resetAnswer_responding] at hr
  · exact h

theorem ResponsesWhole.answerAllReset_keeps {s : State} (h : ResponsesWhole s) : ResponsesWhole (answerAllReset s) := by
  unfold answerAllReset
  induction allTags generalizing s with
  | nil => exact h
  | cons t ts ih => exact ih (h.answerReset_keeps t)

theorem discardSlots_empty (s : State) (i : SlotIx) : slotAt (discardSlots s) i = none := by
  simp [slotAt, discardSlots]

/-- R44, R63, R75, R98, R114, R149: once every unit is cleared, only responses hold tags. -/
theorem ResponsesWhole.cleared {s : State} (h : ResponsesWhole s) :
    TagsWhole (emptyReady (forceUnits (discardSlots s))) := by
  have acc : (discardSlots s).acc = s.acc := (frame_discardSlots s).same .acc
  have discarded : ResponsesWhole (discardSlots s) := h.of_eq (by rw [acc]) (by rw [acc])
  exact .of_parts (discarded.of_eq rfl rfl) (.of_empty rfl rfl (discardSlots_empty s))

theorem keepsTags_forceTracker (s : State) : KeepsTags s (forceTracker s) := .of_frame (frame_setTrk s _)

theorem keepsTags_forceQuiesce (s : State) : KeepsTags s (forceQuiesce s) := .of_frame (frame_forceQuiesce s)

theorem keepsTags_takeDpResetForce (s : State) : KeepsTags s (takeDpResetForce s) := fun h => by
  have answered : ResponsesWhole (answerAllReset (setResult .done s)) :=
    ResponsesWhole.answerAllReset_keeps (h.1.of_eq rfl rfl)
  exact keepsTags_finishEvent s _ (keepsTags_forceQuiesce _ (keepsTags_forceTracker _ answered.cleared))

theorem tagsWhole_resetHeld (s : State) : TagsWhole (resetHeld s) := by
  have free : ∀ t, tagState (resetHeld s) t = .free := fun t =>
    Vector.getElem_replicate (n := 32) (a := TagState.free) t.isLt
  have empty : ∀ i, slotAt (resetHeld s) i = none := fun i =>
    Vector.getElem_replicate (n := 16) (a := (none : Option Slot)) i.isLt
  have queue : (resetHeld s).acc.queue = [] := rfl
  refine .of_parts ⟨by simp [queue], fun t => ?_⟩ (.of_empty rfl rfl empty)
  simp [queue, free t]

theorem tagsWhole_powerOn (held : Bool) (straps : BitVec 2) (drnReq : Bool) (s : State) :
    TagsWhole (powerOn held straps drnReq s) := by
  have ended : ∀ u, TagsWhole u → TagsWhole { u with port := { u.port with straps := straps }, inReset := false } :=
    fun _ h => h
  unfold powerOn; split
  · exact tagsWhole_resetHeld s
  · unfold resetEnds
    dsimp only
    split
    · exact keepsTags_quiesceStart _ (keepsTags_setQuiesce _ _ (ended _ (tagsWhole_resetHeld s)))
    · exact ended _ (tagsWhole_resetHeld s)

/-! ### The management port and the drain line -/

theorem keepsTags_takeCommit (s : State) : KeepsTags s (takeCommit s) := by
  unfold takeCommit; split
  · exact keepsTags_setResult _ s
  · split
    · unfold startCommit
      dsimp only
      have pending := (keepsTags_setQuiesce s { s.quiesce with commitPending := true }).trans
        (keepsTags_setResult .pending _)
      split
      · exact (pending.trans (keepsTags_quiesceStart _)).trans (keepsTags_finishEvent s _)
      · exact pending
      · exact pending.trans (keepsTags_applyCommit _)
    · exact keepsTags_setResult _ s

theorem keepsTags_takeProtoClear (s : State) : KeepsTags s (takeProtoClear s) :=
  ((keepsTags_setAcc (a := { s.acc with capture := none }) rfl rfl).trans (.of_frame (frame_setTrk _ _))).trans
    (keepsTags_setResult _ _)

theorem keepsTags_runCommand (code : Byte) (s : State) : KeepsTags s (runCommand code s) := by
  unfold runCommand; split
  · exact keepsTags_takeCommit s
  · exact keepsTags_takeDpReset s
  · exact keepsTags_takeDpResetForce s
  · exact .of_frame (frame_takeLogPop s)
  · exact .of_frame (frame_takeLogClearOvf s)
  · exact keepsTags_takeProtoClear s
  · exact keepsTags_setResult _ s

theorem keepsTags_takeRange (lo hi : Nat) (v : Byte) (put : State → State) (s : State)
    (hput : KeepsTags s (put s)) : KeepsTags s (takeRange lo hi v put s).2 := by
  unfold takeRange; split
  · exact hput
  · exact .refl s

theorem keepsTags_writeReg (i v : Byte) (s : State) : KeepsTags s (writeReg i v s).2 := by
  have cfg : ∀ x, KeepsTags s (s.setCfg x) := fun x => .of_frame (frame_setCfg s x)
  unfold writeReg; split
  · exact .of_frame (frame_takeStaged i v s)
  · split
    · exact keepsTags_takeRange _ _ _ _ s (cfg _)
    · exact keepsTags_takeRange _ _ _ _ s (cfg _)
    · exact keepsTags_takeRange _ _ _ _ s (cfg _)
    · exact keepsTags_takeRange _ _ _ _ s (cfg _)
    · exact keepsTags_setPort s _
    · exact .of_frame (frame_takeTimeoutHigh v s)
    · exact .of_frame (frame_setWin s _)
    · exact keepsTags_runCommand v s
    · exact .of_frame (frame_setIrq s _)
    · exact .of_frame (frame_setIrq s _)
    · exact .refl s

theorem keepsTags_portWrite (follows : Bool) (i v : Byte) (s : State) : KeepsTags s (portWrite follows i v s) := by
  have data : ∀ u, KeepsTags u (dataByte v u) := by
    intro u
    unfold dataByte; split
    · unfold takeByte
      dsimp only
      split
      · exact (keepsTags_writeReg _ v u).trans (.of_frame (frame_ackByte _))
      · exact (keepsTags_writeReg _ v u).trans (.of_frame (frame_nackByte _))
    all_goals exact .of_frame (frame_noAck u)
  unfold portWrite; split
  · exact data s
  · exact (KeepsTags.of_frame (frame_beginWrite i s)).trans (data _)

theorem keepsTags_drainRises (s : State) : KeepsTags s (drainRises s) := by
  have held := keepsTags_setQuiesce s { s.quiesce with drainHeld := true }
  unfold drainRises
  dsimp only
  split
  · exact (held.trans (keepsTags_quiesceStart _)).trans (keepsTags_finishEvent s _)
  all_goals exact held

theorem keepsTags_drainFalls (s : State) : KeepsTags s (drainFalls s) := by
  have clear := keepsTags_setQuiesce s { s.quiesce with drainHeld := false }
  have ends := (clear.trans (keepsTags_returnToRun _)).trans (keepsTags_finishEvent s _)
  unfold drainFalls
  dsimp only
  split
  · exact clear
  · split
    · exact clear
    · exact ends
  · exact ends

/-! ### Commands and steps -/

theorem event_keepsTags {s t : State} {f : State → State} (hf : ∀ u, KeepsTags u (f u)) (he : event s f = .next t) :
    KeepsTags s t := by
  have idle := keepsTags_setWires s Wires.idle
  unfold event at he
  dsimp only at he
  split at he <;> obtain rfl := Host.Outcome.next.inj he
  · exact idle
  · exact idle.trans (hf _)

theorem keepsTags_setReady (level : Bool) (s : State) : KeepsTags s (setReady level s) :=
  (keepsTags_setWires s Wires.idle).trans (.of_frame (frame_setArb _ _))

/-- Every command keeps the tags whole. -/
theorem exec_keepsTags {c : Instr} {s t : State} (h : exec c s = .next t) : KeepsTags s t := by
  cases c with
  | requestPresented msg => exact event_keepsTags (keepsTags_present msg) h
  | responseSent => exact event_keepsTags keepsTags_sendResponse h
  | holdTimerExpiry i => exact event_keepsTags (keepsTags_holdExpires i) h
  | mreqReadyRise => exact Host.Outcome.next.inj h ▸ keepsTags_setReady true s
  | mreqReadyFall => exact Host.Outcome.next.inj h ▸ keepsTags_setReady false s
  | grant => exact event_keepsTags keepsTags_grantStep h
  | done m d => exact event_keepsTags (keepsTags_takeDone m d) h
  | defer m => exact event_keepsTags (keepsTags_takeDefer m) h
  | fault m => exact event_keepsTags (keepsTags_takeFault m) h
  | badResp m => exact event_keepsTags (fun u => .of_frame (frame_badResponse m u)) h
  | responseTimerExpiry m => exact event_keepsTags (keepsTags_responseExpires m) h
  | backoffTimerExpiry m => exact event_keepsTags (keepsTags_backoffExpires m) h
  | reclaimTimerExpiry m => exact event_keepsTags (keepsTags_reclaimExpires m) h
  | drnReqRise => exact event_keepsTags keepsTags_drainRises h
  | drnReqFall => exact event_keepsTags keepsTags_drainFalls h
  | commit f => exact event_keepsTags (keepsTags_portWrite f _ _) h
  | dpReset f => exact event_keepsTags (keepsTags_portWrite f _ _) h
  | dpResetForce f => exact event_keepsTags (keepsTags_portWrite f _ _) h
  | logPop f => exact event_keepsTags (keepsTags_portWrite f _ _) h
  | logClearOvf f => exact event_keepsTags (keepsTags_portWrite f _ _) h
  | protoClear f => exact event_keepsTags (keepsTags_portWrite f _ _) h
  | unknownCommand code f => exact event_keepsTags (keepsTags_portWrite f _ code) h
  | interruptStatusWrite v f => exact event_keepsTags (keepsTags_portWrite f _ v) h
  | interruptMaskWrite v f => exact event_keepsTags (keepsTags_portWrite f _ v) h
  | responseTimeoutLowWrite v f => exact event_keepsTags (keepsTags_portWrite f _ v) h
  | responseTimeoutHighWrite v f => exact event_keepsTags (keepsTags_portWrite f _ v) h
  | stagedTableWrite i v f => exact event_keepsTags (keepsTags_portWrite f i v) h
  | registerWrite i v f => exact event_keepsTags (keepsTags_portWrite f i v) h
  | indexPointerWrite a i => exact event_keepsTags (fun u => .of_frame (frame_pointerWrite a i u)) h
  | logHeadRead a more => exact event_keepsTags (fun u => .of_frame (frame_portRead a more u)) h
  | powerOnReset held straps d =>
    exact Host.Outcome.next.inj h ▸ fun _ => tagsWhole_powerOn held straps d s
  | ageCountTick => exact event_keepsTags keepsTags_tick h
  | readTransfer a more => exact event_keepsTags (fun u => .of_frame (frame_portRead a more u)) h

/-- Settles O59: each command's event keeps the units in step with the tag table (`exec_keepsTags`), and a step is
the event of the front command, or idles. -/
theorem stepKeepsTagsWhole : Obligations.StepKeepsTagsWhole := by
  intro s t h hs
  unfold step at hs
  split at hs
  · exact Host.Outcome.next.inj hs ▸ h
  · next c rest _ => exact (KeepsTags.of_frame (frame_setPending s rest)).trans (exec_keepsTags hs) h

end Sys2Proof.Machine
end

section
/-! PROOFS. A presented request, check by check of R2: what each outcome of the examination leaves (O6 to O10). -/

namespace Sys2Proof.Machine

set_option Elab.async false

/-! ### The event of a presented request -/

theorem exec_requestPresented {s : State} (m : IReqMsg) (hr : s.inReset = false) :
    exec (.requestPresented (some m)) s = .next (drainTest (examine m (s.setWires Wires.idle))) := by
  simp [exec, execRequestPresented, event, present, hr]

theorem exec_requestWithdrawn {s : State} (hr : s.inReset = false) :
    exec (.requestPresented none) s = .next (setHead none (s.setWires Wires.idle)) := by
  simp [exec, execRequestPresented, event, present, hr]

/-! ### The ordered checks of R2 -/

theorem isDirect_iff (x : TagState) : x.isDirect = true ↔ ∃ op, x = .direct op := by
  cases x <;> simp [TagState.isDirect]

/-- R3: what stops acceptance. -/
theorem acceptStopped_iff (s : State) :
    acceptStopped s = true ↔ s.quiesce.state ≠ .run ∨ ∃ (t : Tag) (op : AccessOp), tagState s t = .direct op := by
  simp [acceptStopped, allTags, isDirect_iff]

/-- R5: what makes a request malformed. -/
theorem malformedKind_eq_some {r : Request} {k : RequestError} :
    malformedKind r = some k ↔
      r.op = .unknown ∧ k = .badOp ∨
        (r.op = .read ∨ r.op = .write) ∧ k = .badSpan ∧
          (r.span.size = 0 ∨ 64 < r.span.size ∨ 64 < offsetOf r.span.addr + r.span.size) := by
  cases hop : r.op <;> simp [malformedKind, hop, badSpan, eq_comm (a := k), or_assoc, and_comm]

theorem examine_stopped {s : State} (m : IReqMsg) (h : acceptStopped s = true) :
    examine m s = setHead (some m) s := by
  simp [examine, h]

theorem examine_inUse {s : State} {m : IReqMsg} {r : Request} (h : acceptStopped s = false)
    (hm : decodeRequest m = r) (ht : tagState s r.tag ≠ .free) : examine m s = dropInUse r s := by
  simp [examine, h, hm, ht]

theorem examine_malformed {s : State} {m : IReqMsg} {r : Request} {k : RequestError} (h : acceptStopped s = false)
    (hm : decodeRequest m = r) (ht : tagState s r.tag = .free) (hk : malformedKind r = some k) :
    examine m s = answerMalformed k r s := by
  simp [examine, h, hm, ht, hk]

/-- A request that passes checks 1 to 3 goes on by its operation. -/
theorem exec_admitted {s : State} {m : IReqMsg} {r : Request} (h : Admitted s m r) :
    exec (.requestPresented (some m)) s = .next (drainTest (dispatch m r (s.setWires Wires.idle))) := by
  obtain ⟨hr, hs, hm, ht, hk⟩ := h
  have hs : acceptStopped (s.setWires Wires.idle) = false := hs
  have ht : tagState (s.setWires Wires.idle) r.tag = .free := ht
  rw [exec_requestPresented m hr]
  simp [examine, hs, hm, ht, hk]

/-! ### Checks 5 to 8, by operation and class -/

theorem dispatch_write {s : State} {r : Request} (m : IReqMsg) (hop : r.op = .write)
    (hc : (classOf s r).cls = .combine ∨ (classOf s r).cls = .sequence) :
    dispatch m r s = acceptWrite m r (classOf s r) s := by
  have named : classify s.win (pageOf r.span.addr) = classOf s r := rfl
  obtain hc | hc := hc <;> simp [dispatch, hop, dispatchAccess, named, hc]

theorem dispatch_direct {s : State} {r : Request} {op : AccessOp} (m : IReqMsg)
    (hop : r.op = .read ∧ op = .read ∨ r.op = .write ∧ op = .write) (hc : (classOf s r).cls = .direct) :
    dispatch m r s = acceptDirect op r (classOf s r) s := by
  have named : classify s.win (pageOf r.span.addr) = classOf s r := rfl
  obtain ⟨hop, rfl⟩ | ⟨hop, rfl⟩ := hop <;> simp [dispatch, hop, dispatchAccess, named, hc]

theorem dispatch_reject {s : State} {r : Request} (m : IReqMsg) (hop : r.op = .read ∨ r.op = .write)
    (hc : (classOf s r).cls = .reject) : dispatch m r s = rejectRequest r s := by
  have named : classify s.win (pageOf r.span.addr) = classOf s r := rfl
  obtain hop | hop := hop <;> simp [dispatch, hop, dispatchAccess, named, hc]

theorem dispatch_fence {s : State} {r : Request} (m : IReqMsg) (hop : r.op = .fence) :
    dispatch m r s = acceptFence m r s := by
  simp [dispatch, hop]

/-! ### What the checks do -/

/-- R6: the capture keeps what it holds. -/
theorem offerRequestError_eq (k : RequestError) (t : Tag) (s : State) :
    offerRequestError k t s =
      s.setAcc { s.acc with capture := some (s.acc.capture.getD { kind := k, tag := t }) } := by
  unfold offerRequestError
  cases h : s.acc.capture with
  | none => rfl
  | some c =>
    change s = { s with acc := { s.acc with capture := some c } }
    rw [← h]

theorem errorAnswer_eq (r : Request) (why : Reason) :
    errorAnswer r why = if r.op = .write then .wackError r.tag why else .rdataError r.tag why := by
  cases hop : r.op <;> simp [errorAnswer, hop]

/-- R10, R16: a request taken from a link with nothing on the wires, and answered at its acceptance. -/
theorem pushResponse_takeHead (a : Response) (s : State) :
    pushResponse a (takeHead (s.setWires Wires.idle)) = { s with acc := s.acc.answered a, wires := Wires.taken } :=
  rfl

/-- Settles O6: a stopped acceptance leaves the presented request at the head of the link (`examine_stopped`). -/
theorem requestWaitsOrLeaves : Obligations.RequestWaitsOrLeaves := by
  refine ⟨fun s m hr stopped => ?_, fun s hr => ?_⟩
  · have hs : acceptStopped (s.setWires Wires.idle) = true := (acceptStopped_iff s).2 stopped
    rw [exec_requestPresented m hr, examine_stopped m hs]
    rfl
  · rw [exec_requestWithdrawn hr]
    rfl

/-- Settles O7: check 2 of R2 drops the request (`examine_inUse`). -/
theorem tagInUseDropped : Obligations.TagInUseDropped := by
  intro s m r hr hs hm ht
  rw [exec_requestPresented m hr, examine_inUse (s := s.setWires Wires.idle) hs hm ht, dropInUse,
    offerRequestError_eq]
  rfl

/-- Settles O8: check 3 of R2 answers the request (`examine_malformed`), for the reasons `malformedKind_eq_some`. -/
theorem malformedAnswered : Obligations.MalformedAnswered := by
  intro s m r k hr hs hm ht hk
  rw [exec_requestPresented m hr,
    examine_malformed (s := s.setWires Wires.idle) hs hm ht (malformedKind_eq_some.2 hk), answerMalformed,
    pushResponse_takeHead, offerRequestError_eq, errorAnswer_eq]
  rfl

/-- Settles O10: check 5 of R2 answers an access of class REJECT (`dispatch_reject`). -/
theorem rejectedAnswered : Obligations.RejectedAnswered := by
  intro s m r h hop hc
  rw [exec_admitted h, dispatch_reject (s := s.setWires Wires.idle) m hop hc, rejectRequest,
    pushResponse_takeHead, errorAnswer_eq]

/-! ### Classification -/

/-- A search of the indices finds the lowest one that fits. -/
theorem find_finRange {n : Nat} {p : Fin n → Bool} {i : Fin n} (hi : p i = true)
    (below : ∀ k : Fin n, k < i → p k = false) : (List.finRange n).find? p = some i := by
  rw [← List.ofFn_id]
  exact (List.find?_ofFn_eq_some_of_injective Function.injective_id).2 ⟨hi, fun k hk => by simp [below k hk]⟩

/-- Settles O9: the search of `classify` stops at the lowest record that decides (`find_finRange`). -/
theorem lowestWindowDecides : Obligations.LowestWindowDecides := by
  intro w p
  refine ⟨fun n hn below => ?_, fun silent => ?_, fun x => ?_⟩
  · rw [classify, find_finRange hn below]
  · have h : (List.finRange 8).find? (fun k => (w.active.recs[k]).decides p) = none :=
      List.find?_eq_none.2 fun k _ => by simp only [silent k, Bool.false_eq_true, not_false_eq_true]
    rw [classify, h]
  · simp [WindowRecord.decides, and_assoc]

end Sys2Proof.Machine
end

section
/-! PROOFS. A write in COMBINE or SEQUENCE: it opens a slot, merges or waits (O11, O12, O13). -/

namespace Sys2Proof.Machine

set_option Elab.async false

/-! ### Slots and masks -/

theorem slotFilling_of_some {s : State} {i : SlotIx} {x : Slot} (h : slotAt s i = some x) :
    slotFilling s i = x.isFilling := by
  simp only [slotFilling, h]

/-- A slot record put where it stands already. -/
theorem slots_set_self {s : State} {i : SlotIx} {x : Option Slot} (h : slotAt s i = x) :
    s.buf.slots.set i x = s.buf.slots := by
  subst h
  exact Vector.set_getElem_self i.isLt

theorem getLsbD_runMask {off size : Nat} (hs : size ≤ 64) (i : Nat) :
    (runMask off size).getLsbD i = decide (i < 64 ∧ off ≤ i ∧ i < off + size) := by
  rw [runMask, BitVec.getLsbD_shiftLeft, BitVec.getLsbD_ushiftRight, BitVec.getLsbD_allOnes,
    Bool.eq_iff_iff]
  simp only [Bool.and_eq_true, Bool.not_eq_true', decide_eq_true_eq, decide_eq_false_iff_not]
  omega

/-- R25: a span of a well-formed request covers its line exactly if it has 64 bytes. -/
theorem span_mask_full_iff {sp : Span} (h : badSpan sp = false) : sp.mask = BitVec.allOnes 64 ↔ sp.size = 64 := by
  simp only [badSpan, Bool.or_eq_false_iff, decide_eq_false_iff_not] at h
  obtain ⟨⟨-, hs⟩, hl⟩ := h
  have bit := getLsbD_runMask (off := offsetOf sp.addr) (size := sp.size) (by omega)
  constructor
  · intro full
    rw [Span.mask] at full
    have first := bit 0
    have last := bit 63
    rw [full] at first last
    simp at first last
    omega
  · intro size
    refine BitVec.eq_of_getLsbD_eq fun i hi => ?_
    rw [Span.mask, bit i]
    simp only [BitVec.getLsbD_allOnes]
    simp
    omega

theorem badSpan_of_write {r : Request} (hop : r.op = .write) (h : malformedKind r = none) : badSpan r.span = false := by
  simpa [malformedKind, hop] using h

/-! ### The rest of a write's acceptance -/

/-- R12: the acceptance unit after a write is answered or its tag waits, the head of the link apart. -/
def Acceptance.wrote (a : Acceptance) (r : Request) : Acceptance :=
  if r.confirm then { a with tags := a.tags.set r.tag .confirmWrite }
  else { a with tags := a.tags.set r.tag .responding, queue := a.queue ++ [.wackOk r.tag] }

/-- A request taken from the link: its tag waits, or it is answered (R10). -/
theorem Acceptance.wrote_eq (a : Acceptance) (r : Request) :
    ({ a with head := none } : Acceptance).wrote r =
      if r.confirm then a.taken r.tag .confirmWrite else a.answered (.wackOk r.tag) := by
  rw [Acceptance.wrote]; split <;> rfl

/-- R12, R25, R29: the record of a slot that holds a write's bytes, with its waiter and its seal. -/
def Slot.wrote (x : Slot) (r : Request) (sealed : Bool) : Slot :=
  { x with
    phase := if sealed then .sealed else x.phase
    waiters := if r.confirm then x.waiters ++ [r.tag] else x.waiters }

theorem putSlot_self {s : State} {i : SlotIx} {x : Option Slot} (h : slotAt s i = x) : putSlot i x s = s := by
  rw [putSlot, slots_set_self h]; rfl

/-- A slot put twice is the one put last. -/
theorem putSlot_putSlot (i : SlotIx) (x y : Option Slot) (s : State) :
    putSlot i y (putSlot i x s) = putSlot i y s := by
  simp only [putSlot, State.setBuf, Vector.set_set]

theorem answerWrite_eq {u : State} {i : SlotIx} {x : Slot} (r : Request) (hx : slotAt u i = some x) :
    answerWrite i r u = putSlot i (some (x.wrote r false)) (u.setAcc (u.acc.wrote r)) := by
  cases hc : r.confirm with
  | true => simp only [answerWrite, addWaiter, hx, Slot.wrote, Acceptance.wrote, hc, if_true]; rfl
  | false =>
    have kept : x.wrote r false = x := by simp [Slot.wrote, hc]
    have hx' : slotAt (u.setAcc (u.acc.wrote r)) i = some x := hx
    rw [kept, putSlot_self hx']
    simp only [answerWrite, Acceptance.wrote, hc]; rfl

/-- R12, R25, R29, R30: what an accepted write does once its bytes stand in FILLING slot `i`, but for its report. -/
theorem sealTriggers_answerWrite {u : State} {i : SlotIx} {x : Slot} {r : Request} {c : Classification} {sealed : Bool}
    (hx : slotAt u i = some x) (hf : x.isFilling = true)
    (hs : sealed = true ↔ r.confirm = true ∨ x.valid = BitVec.allOnes 64 ∨ c.cls = .sequence) :
    sealTriggers i r c (answerWrite i r u) =
      { u with
        acc := u.acc.wrote r
        buf := { u.buf with slots := u.buf.slots.set i (some (x.wrote r sealed)) }
        drain := if sealed then { queue := u.drain.queue ++ [{ slot := i, age := 0 }] } else u.drain } := by
  have hy : slotAt (answerWrite i r u) i = some (x.wrote r false) := by
    rw [answerWrite_eq r hx, slotAt_putSlot, if_pos rfl]
  have condition : (slotFull (answerWrite i r u) i || r.confirm || c.cls == .sequence) = sealed := by
    rw [Bool.eq_iff_iff, hs]
    simp only [slotFull, hy, Slot.wrote, Bool.or_eq_true, beq_iff_eq]
    tauto
  rw [sealTriggers, condition]
  cases sealed with
  | false => rw [answerWrite_eq r hx]; rfl
  | true =>
    have filling : (x.wrote r false).isFilling = true := hf
    rw [if_pos rfl, sealSlot_filling hy filling, answerWrite_eq r hx, putSlot_putSlot]
    rfl

/-- A write that merges into no slot: no slot is FILLING for its line, or it is of class SEQUENCE (R12, R30). -/
theorem mergeTarget_none {s : State} {r : Request} {c : Classification}
    (h : c.cls = .combine ∧ fillingOfLine s r.span.line = none ∨ c.cls = .sequence) : mergeTarget r c s = none := by
  obtain ⟨hc, hl⟩ | hc := h <;> simp [mergeTarget, *]

/-- R21: the hold timer at opening, for a slot that stays FILLING. -/
theorem openingTimer_combine {c : Classification} (h : c.cls = .combine) :
    openingTimer c = if c.hold = 0 then none else some c.hold.toNat := by
  by_cases hz : c.hold = 0 <;> simp [openingTimer, h, hz]

theorem slotAt_openSlot (i : SlotIx) (r : Request) (c : Classification) (s : State) :
    slotAt (openSlot i r c s) i = some (openedSlot r c s) :=
  Vector.getElem_set_self i.isLt

/-- R21, R22: the record a write opens, once it is answered and perhaps sealed. -/
theorem openedSlot_wrote {s : State} {r : Request} {c : Classification} {sealed : Bool}
    (hc : sealed = false → c.cls = .combine) :
    (openedSlot r c s).wrote r sealed =
      { line := r.span.line, valid := r.span.mask, data := takeLanes r.span.mask r.data, window := c.window
        cls := c.cls, epoch := s.fence.epoch
        phase := if sealed then .sealed else .filling (if c.hold = 0 then none else some c.hold.toNat)
        waiters := if r.confirm then [r.tag] else []
        blockers := (s.rd.reads.filter fun q => q.span.line == r.span.line).map (·.tag), lost := false } := by
  cases sealed with
  | true => rfl
  | false => rw [Slot.wrote, openedSlot, openingTimer_combine (hc rfl)]; rfl

/-- Settles O11: the write opens the slot (`openSlot`), and `sealTriggers_answerWrite` gives the rest. -/
theorem writeOpensSlot : Obligations.WriteOpensSlot := by
  intro s m r i sealed h hop hc hi hs
  obtain ⟨-, -, -, -, wellFormed⟩ := id h
  have hcls : (classOf s r).cls = .combine ∨ (classOf s r).cls = .sequence := hc.imp_left And.left
  have unsealed : sealed = false → (classOf s r).cls = .combine := fun e =>
    hcls.resolve_right fun e' => by simp [e, e'] at hs
  have noMerge : mergeTarget r (classOf s r) (s.setWires Wires.idle) = none := mergeTarget_none hc
  have empty : firstEmptySlot (s.setWires Wires.idle) = some i := hi
  have full : r.span.mask = BitVec.allOnes 64 ↔ r.span.size = 64 := span_mask_full_iff (badSpan_of_write hop wellFormed)
  have acc : (openSlot i r (classOf s r) (takeHead (s.setWires Wires.idle))).acc.wrote r = _ :=
    Acceptance.wrote_eq s.acc r
  have slots : ∀ y, (openSlot i r (classOf s r) (takeHead (s.setWires Wires.idle))).buf.slots.set i y =
      s.buf.slots.set i y := fun _ => Vector.set_set ..
  have same : classOf (s.setWires Wires.idle) r = classOf s r := rfl
  rw [exec_admitted h, dispatch_write (s := s.setWires Wires.idle) m hop hcls, same, acceptWrite, noMerge, empty]
  simp only [finishWrite]
  rw [sealTriggers_answerWrite (sealed := sealed) (slotAt_openSlot i r (classOf s r) _) rfl
    (by rw [hs, ← full]; rfl), openedSlot_wrote unsealed, acc, slots]
  rfl

/-- Settles O12: the write merges (`Slot.merge`) into the FILLING slot found, and `sealTriggers_answerWrite` gives the
rest. -/
theorem writeMerges : Obligations.WriteMerges := by
  intro s m r i x sealed h hop hc hi hx hs
  have filling : x.isFilling = true := by
    have found := List.find?_some hi
    rw [Bool.and_eq_true, slotFilling_of_some hx] at found
    exact found.2
  have target : mergeTarget r (classOf s r) (s.setWires Wires.idle) = some i := by
    simp only [mergeTarget, hc]; exact hi
  have hx' : slotAt (takeHead (s.setWires Wires.idle)) i = some x := hx
  have merged : mergeSlot i r (takeHead (s.setWires Wires.idle)) =
      putSlot i (some (x.merge r)) (takeHead (s.setWires Wires.idle)) := by
    simp only [mergeSlot, hx']
  have acc : (putSlot i (some (x.merge r)) (takeHead (s.setWires Wires.idle))).acc.wrote r = _ :=
    Acceptance.wrote_eq s.acc r
  have slots : ∀ y, (putSlot i (some (x.merge r)) (takeHead (s.setWires Wires.idle))).buf.slots.set i y =
      s.buf.slots.set i y := fun _ => Vector.set_set ..
  have same : classOf (s.setWires Wires.idle) r = classOf s r := rfl
  rw [exec_admitted h, dispatch_write (s := s.setWires Wires.idle) m hop (.inl hc), same, acceptWrite, target]
  simp only [finishWrite]
  rw [merged, sealTriggers_answerWrite (sealed := sealed) (x := x.merge r) (by rw [slotAt_putSlot, if_pos rfl]) filling
    (by rw [hs, hc]; simp [Slot.merge]), acc, slots]
  rfl

/-! ### No room -/

/-- R36: the oldest FILLING slot is sealed. -/
theorem pressureSeal_oldest {s : State} {i : SlotIx} {x : Slot} (hi : s.buf.ages.find? (slotFilling s) = some i)
    (hx : slotAt s i = some x) :
    pressureSeal s = (putSlot i (some { x with phase := .sealed }) s).setDrain
      { queue := s.drain.queue ++ [{ slot := i, age := 0 }] } := by
  have filling : x.isFilling = true := slotFilling_of_some hx ▸ List.find?_some hi
  rw [pressureSeal, hi]
  exact sealSlot_filling hx filling

theorem pressureSeal_none {s : State} (h : ∀ i ∈ s.buf.ages, slotFilling s i = false) : pressureSeal s = s := by
  have none : s.buf.ages.find? (slotFilling s) = none := by simpa using h
  rw [pressureSeal, none]

/-- Settles O13: without an EMPTY slot only the pressure seal acts, and the request waits. -/
theorem writeWithoutRoomWaits : Obligations.WriteWithoutRoomWaits := by
  intro s m r h hop hc full
  have hcls : (classOf s r).cls = .combine ∨ (classOf s r).cls = .sequence := hc.imp_left And.left
  have noMerge : mergeTarget r (classOf s r) (s.setWires Wires.idle) = none := mergeTarget_none hc
  have noRoom : firstEmptySlot (s.setWires Wires.idle) = none := full
  have same : classOf (s.setWires Wires.idle) r = classOf s r := rfl
  have waits : exec (.requestPresented (some m)) s =
      .next (drainTest (setHead (some m) (pressureSeal (s.setWires Wires.idle)))) := by
    rw [exec_admitted h, dispatch_write (s := s.setWires Wires.idle) m hop hcls, same, acceptWrite, noMerge, noRoom]
  refine ⟨fun i x hi hx => ?_, fun none => ?_⟩
  · rw [waits, pressureSeal_oldest (s := s.setWires Wires.idle) hi hx]
    rfl
  · rw [waits, pressureSeal_none (s := s.setWires Wires.idle) none]
    rfl

end Sys2Proof.Machine
end

section
/-! PROOFS. The seal-all, fences and the DIRECT path (O18, O19). -/

namespace Sys2Proof.Machine

set_option Elab.async false

/-! ### The seal-all (R31) -/

/-- A slot record after sealing a list of slots: `b` tells whether its slot is among them. -/
def Slot.sealedIf (b : Bool) (x : Slot) : Slot := if b && x.isFilling then { x with phase := .sealed } else x

/-- The slots after sealing a list of slots. -/
def sealedSlots (is : List SlotIx) (s : State) : Vector (Option Slot) 16 :=
  Vector.ofFn fun i => (s.buf.slots[i]).map (Slot.sealedIf (is.contains i))

theorem sealedSlots_get (is : List SlotIx) (s : State) (k : SlotIx) :
    (sealedSlots is s)[k] = (slotAt s k).map (Slot.sealedIf (is.contains k)) :=
  Vector.getElem_ofFn k.isLt

theorem slots_ext {v w : Vector (Option Slot) 16} (h : ∀ k : SlotIx, v[k] = w[k]) : v = w :=
  Vector.ext fun k hk => h ⟨k, hk⟩

/-- Sealing a list of FILLING slots, each named once: they stand last in the drain queue, in the list's order. -/
theorem sealSlots_eq (is : List SlotIx) (s : State) (nodup : is.Nodup) (hf : ∀ i ∈ is, slotFilling s i = true) :
    sealSlots is s =
      { s with
        buf := { s.buf with slots := sealedSlots is s }
        drain := { queue := s.drain.queue ++ is.map fun i => { slot := i, age := 0 } } } := by
  induction is generalizing s with
  | nil =>
    have slots : sealedSlots [] s = s.buf.slots := slots_ext fun k => by
      rw [sealedSlots_get]
      cases hx : slotAt s k with
      | none => exact hx.symm
      | some x => exact hx.symm
    rw [slots, List.map_nil, List.append_nil]
    rfl
  | cons i is ih =>
    obtain ⟨fresh, nodup⟩ := List.nodup_cons.1 nodup
    obtain ⟨x, hx⟩ : ∃ x, slotAt s i = some x := by
      cases hx : slotAt s i with
      | none => simpa [slotFilling, hx] using hf i List.mem_cons_self
      | some x => exact ⟨x, rfl⟩
    have filling : x.isFilling = true := slotFilling_of_some hx ▸ hf i List.mem_cons_self
    have first := sealSlot_filling hx filling
    have slotAfter : ∀ k, slotAt (sealSlot i s) k = if i = k then some { x with phase := .sealed } else slotAt s k := by
      intro k
      rw [first]
      exact slotAt_putSlot i k _ s
    have rest := ih (sealSlot i s) nodup fun k hk => by
      have ne : i ≠ k := fun e => fresh (e ▸ hk)
      rw [slotFilling, slotAfter, if_neg ne]
      exact hf k (List.mem_cons_of_mem i hk)
    have slots : sealedSlots is (sealSlot i s) = sealedSlots (i :: is) s := slots_ext fun k => by
      rw [sealedSlots_get, sealedSlots_get, slotAfter]
      by_cases e : i = k
      · subst e
        simp [hx, Slot.sealedIf, fresh, filling]
      · simp [e, Ne.symm e]
    change sealSlots is (sealSlot i s) = _
    rw [rest, slots, first]
    simp only [State.setDrain, putSlot, State.setBuf, List.append_assoc, List.map_cons, List.singleton_append]

/-- R31: where the age list is whole, the seal-all seals every FILLING slot. -/
theorem sealAll_eq {s : State} (h : AgesWhole s) : sealAll s = afterSealAll s := by
  obtain ⟨nodup, mem⟩ := h
  have listed : ∀ k, (s.buf.ages.filter (slotFilling s)).contains k = slotFilling s k := by
    intro k
    have live : slotFilling s k = true → k ∈ s.buf.ages := fun hk => by
      rw [mem k]
      cases hx : slotAt s k with
      | none => simp [slotFilling, hx] at hk
      | some x => simp [slotLive, hx]
    rw [Bool.eq_iff_iff, List.contains_iff_mem, List.mem_filter]
    exact ⟨And.right, fun hk => ⟨live hk, hk⟩⟩
  have slots : sealedSlots (s.buf.ages.filter (slotFilling s)) s = (afterSealAll s).buf.slots := slots_ext fun k => by
    have after : (afterSealAll s).buf.slots[k] =
        (slotAt s k).map fun x => if x.isFilling then { x with phase := .sealed } else x :=
      Vector.getElem_ofFn k.isLt
    rw [sealedSlots_get, listed, after]
    cases hx : slotAt s k with
    | none => rfl
    | some x => simp [Slot.sealedIf, slotFilling, hx]
  rw [sealAll, sealSlots_eq _ s (nodup.filter _) fun i hi => (List.mem_filter.1 hi).2, slots]
  rfl

/-- With no slot non-EMPTY a seal-all does nothing. -/
theorem sealAll_noSlotLive {s : State} (h : noSlotLive s = true) : sealAll s = s := by
  have none : s.buf.ages.filter (slotFilling s) = [] := by
    refine List.filter_eq_nil_iff.2 fun i _ => ?_
    have dead : slotLive s i = false := by simpa using List.all_eq_true.1 h i (List.mem_finRange i)
    cases hx : slotAt s i with
    | none => simp [slotFilling, hx]
    | some x => simp [slotLive, hx] at dead
  rw [sealAll, none]
  rfl

theorem noSlotLive_iff (s : State) : noSlotLive s = true ↔ ∀ i, slotAt s i = none := by
  simp [noSlotLive, allSlots, slotLive]

/-! ### Fences (R67 to R71) -/

/-- R66, R70: a slot is at or before the oldest outstanding fence exactly if it has that fence's epoch. -/
theorem fenceBlocked_iff (s : State) (f : FenceRecord) :
    fenceBlocked s f = true ↔ ∃ i x, slotAt s i = some x ∧ x.epoch = f.epoch := by
  have offset : ∀ x : BitVec 8, atOrBefore f.epoch x f.epoch = true ↔ x = f.epoch := by
    intro x
    rw [atOrBefore, decide_eq_true_eq, epochOffset, epochOffset, BitVec.sub_self, BitVec.toNat_zero, Nat.le_zero,
      ← BitVec.toNat_zero (w := 8), ← BitVec.toNat_eq]
    constructor <;> intro h <;> bv_omega
  rw [fenceBlocked, List.any_eq_true]
  constructor
  · rintro ⟨i, -, hi⟩
    cases hx : slotAt s i with
    | none => simp [hx] at hi
    | some x => exact ⟨i, x, hx, (offset x.epoch).1 (by simpa [hx] using hi)⟩
  · rintro ⟨i, x, hx, he⟩
    exact ⟨i, List.mem_finRange i, by simpa [hx] using (offset x.epoch).2 he⟩

theorem fenceTest_nil {s : State} (h : s.fence.list = []) : fenceTest s = s := by
  rw [fenceTest, h, fenceTestFrom]

theorem fenceTest_blocked {s : State} {f : FenceRecord} {rest : List FenceRecord} (h : s.fence.list = f :: rest)
    (hb : fenceBlocked s f = true) : fenceTest s = s := by
  rw [fenceTest, h, fenceTestFrom, if_pos hb]

/-- R70: the test is made again after a completion. -/
theorem fenceTest_completes {s : State} {f : FenceRecord} {rest : List FenceRecord} (h : s.fence.list = f :: rest)
    (hb : ¬ fenceBlocked s f = true) : fenceTest s = fenceTest (completeFence f rest s) := by
  rw [fenceTest, h, fenceTestFrom, if_neg hb]
  rfl

/-- R14, R68: a FENCE that is accepted. -/
theorem acceptFence_room {s : State} {r : Request} (m : IReqMsg) (h : s.fence.list.length < 4) :
    acceptFence m r s = fenceTest (recordFence r.tag (setTag r.tag .fence (takeHead s))) := by
  rw [acceptFence, if_pos h]

theorem acceptFence_full {s : State} {r : Request} (m : IReqMsg) (h : 4 ≤ s.fence.list.length) :
    acceptFence m r s = setHead (some m) s := by
  rw [acceptFence, if_neg (by omega)]

/-- R70: a FENCE that finds no slot non-EMPTY and no other fence completes at once. -/
theorem acceptFence_alone {s : State} {r : Request} (m : IReqMsg) (quiet : noSlotLive s = true)
    (alone : s.fence.list = []) :
    acceptFence m r s =
      completeFence { tag := r.tag, epoch := s.fence.epoch } [] (recordFence r.tag (setTag r.tag .fence (takeHead s))) := by
  have quiet' : noSlotLive (setTag r.tag .fence (takeHead s)) = true := quiet
  have list : (recordFence r.tag (setTag r.tag .fence (takeHead s))).fence.list =
      [{ tag := r.tag, epoch := s.fence.epoch }] := by
    rw [recordFence, sealAll_noSlotLive quiet']
    simp [setTag, takeHead, setHead, alone]
  have free : ¬ fenceBlocked (recordFence r.tag (setTag r.tag .fence (takeHead s)))
      { tag := r.tag, epoch := s.fence.epoch } = true := by
    rw [recordFence, sealAll_noSlotLive quiet', fenceBlocked_iff]
    rintro ⟨i, x, hx, -⟩
    exact Option.some_ne_none x (hx.symm.trans ((noSlotLive_iff s).1 quiet i))
  rw [acceptFence_room m (by simp [alone]), fenceTest_completes list free, fenceTest_nil rfl]

/-- Settles O18: a FENCE is recorded behind a seal-all (`sealAll_eq`), and the completion test goes by the oldest
fence's epoch (`fenceBlocked_iff`). -/
theorem fenceByBufferAndList : Obligations.FenceByBufferAndList := by
  refine ⟨fun s m r h hop => ?_, fun s => ⟨fenceTest_nil, fun f rest hl => ⟨fun hb => ?_, fun hb => ?_⟩⟩⟩
  · have dispatched := exec_admitted h
    rw [dispatch_fence m hop] at dispatched
    refine ⟨fun full => ?_, fun quiet alone => ?_, fun room ages => ?_⟩
    · rw [dispatched, acceptFence_full (s := s.setWires Wires.idle) m full]
      rfl
    · have quiet' : noSlotLive (setTag r.tag .fence (takeHead (s.setWires Wires.idle))) = true := quiet
      have acc : s.acc.answered (.fack r.tag s.fence.loss) =
          { s.acc with
            tags := (s.acc.tags.set r.tag .fence).set r.tag .responding
            queue := s.acc.queue ++ [.fack r.tag s.fence.loss], head := none } := by
        rw [Vector.set_set]; rfl
      rw [dispatched, acceptFence_alone (s := s.setWires Wires.idle) m quiet alone, recordFence,
        sealAll_noSlotLive quiet', acc]
      rfl
    · have ages' : AgesWhole (setTag r.tag .fence (takeHead (s.setWires Wires.idle))) := ages
      rw [dispatched, acceptFence_room (s := s.setWires Wires.idle) m room, recordFence, sealAll_eq ages']
      rfl
  · exact fenceTest_blocked hl ((fenceBlocked_iff s f).2 hb)
  · rw [fenceTest_completes hl fun blocked => ?_]
    · rfl
    · obtain ⟨i, x, hx, he⟩ := (fenceBlocked_iff s f).1 blocked
      exact hb i x hx he

/-! ### The DIRECT path (R91 to R94) -/

theorem isHeld_iff (r : ReadRecord) : r.isHeld = true ↔ ∃ lost, r.state = .directWait .held lost := by
  unfold ReadRecord.isHeld
  split <;> simp_all

theorem acceptDirect_read (r : Request) (c : Classification) (s : State) :
    acceptDirect .read r c s =
      directTest (sealAll (putRead (directRecord .read r c) (setTag r.tag (.direct .read) (takeHead s)))) := rfl

theorem acceptDirect_write (r : Request) (c : Classification) (s : State) :
    acceptDirect .write r c s =
      directTest (writeReport r.span.line
        (sealAll (putRead (directRecord .write r c) (setTag r.tag (.direct .write) (takeHead s))))) := rfl

/-- R91, R31: an accepted DIRECT access up to its write report, its tag being FREE before. -/
theorem sealAll_directRecord {s : State} {r : Request} {op : AccessOp} (c : Classification) (tags : TagsWhole s)
    (ages : AgesWhole s) (free : tagState s r.tag = .free) :
    sealAll (putRead (directRecord op r c) (setTag r.tag (.direct op) (takeHead s))) =
      afterSealAll ((setTag r.tag (.direct op) (takeHead s)).setRd { reads := s.rd.reads ++ [directRecord op r c] }) := by
  have fresh : readOf (setTag r.tag (.direct op) (takeHead s)) (directRecord op r c).tag = none :=
    readOf_eq_none.2 (tags.unheld_of_free free).reads
  have ages' : AgesWhole ((setTag r.tag (.direct op) (takeHead s)).setRd
    { reads := s.rd.reads ++ [directRecord op r c] }) := ages
  rw [putRead_new fresh]
  exact sealAll_eq ages'

theorem directTest_live {s : State} (h : noSlotLive s = false) : directTest s = s := by
  simp [directTest, h]

theorem directTest_noneHeld {s : State} (h : ∀ r ∈ s.rd.reads, ∀ lost, r.state ≠ .directWait .held lost) :
    directTest s = s := by
  have none : s.rd.reads.find? ReadRecord.isHeld = none := by
    simpa [List.find?_eq_none, isHeld_iff] using h
  simp [directTest, none]

/-- R92: the record found is released. -/
theorem directTest_held {s : State} {r : ReadRecord} (quiet : noSlotLive s = true)
    (hr : s.rd.reads.find? ReadRecord.isHeld = some r) : directTest s = releaseRecord r s := by
  simp [directTest, quiet, hr]

theorem releaseRecord_eq {s : State} {r : ReadRecord} (hr : r ∈ s.rd.reads) :
    releaseRecord r s =
      { s with
        rd := { reads := replaceRead { r with state := .directWait (.released (directPieces r)) false } s.rd.reads }
        arb := { s.arb with demand := s.arb.demand ++ [.direct] } } := by
  obtain ⟨q, hq⟩ : ∃ q, readOf s r.tag = some q := by
    cases h : readOf s r.tag with
    | none => exact absurd rfl (readOf_eq_none.1 h r hr)
    | some q => exact ⟨q, rfl⟩
  rw [releaseRecord, putRead_old (r := { r with state := .directWait (.released (directPieces r)) false }) hq]
  rfl

theorem directPieces_eq {r : ReadRecord} {ps : List Piece}
    (h : r.access = .read ∧ ps = [] ∨ (∃ d, r.access = .write d) ∧ ps = formPieces r.span.mask) :
    directPieces r = ps := by
  obtain ⟨ha, rfl⟩ | ⟨⟨d, ha⟩, rfl⟩ := h <;> simp [directPieces, ha]

/-- Settles O19: the record stands last and held behind a seal-all (`sealAll_directRecord`), and the release test releases
the record it finds (`directTest_held`, `releaseRecord_eq`). -/
theorem directAccessReleased : Obligations.DirectAccessReleased := by
  refine ⟨fun s u m r op a h tags ages hc hop hu => ?_, fun s => ⟨?_, ?_⟩⟩
  · obtain ⟨-, -, -, free, -⟩ := id h
    have kind : r.op = .read ∧ op = .read ∨ r.op = .write ∧ op = .write :=
      hop.imp (fun ⟨o, p, _⟩ => ⟨o, p⟩) fun ⟨o, p, _⟩ => ⟨o, p⟩
    rw [exec_admitted h, dispatch_direct (s := s.setWires Wires.idle) m kind hc, hu]
    obtain ⟨ho, rfl, rfl⟩ | ⟨ho, rfl, rfl⟩ := hop
    · rw [acceptDirect_read, sealAll_directRecord (s := s.setWires Wires.idle) _ tags ages free, if_neg (by simp [ho])]
      rfl
    · rw [acceptDirect_write, sealAll_directRecord (s := s.setWires Wires.idle) _ tags ages free, if_pos ho]
      rfl
  · rintro (live | noneHeld)
    · exact directTest_live live
    · exact directTest_noneHeld noneHeld
  · intro before after r lost ps quiet hl earlier hs hp
    have found : s.rd.reads.find? ReadRecord.isHeld = some r := by
      refine List.find?_eq_some_iff_append.2 ⟨(isHeld_iff r).2 ⟨lost, hs⟩, before, after, hl, fun q hq => ?_⟩
      have free : ¬ q.isHeld = true := fun held => by
        obtain ⟨l, hl⟩ := (isHeld_iff q).1 held
        exact earlier q hq l hl
      simpa using free
    rw [directTest_held quiet found, releaseRecord_eq (hl ▸ by simp), directPieces_eq hp]

end Sys2Proof.Machine
end

section
/-! PROOFS. How an event ends: examination anew, the QUIET test and an invalidation (O4). -/

namespace Sys2Proof.Machine

set_option Elab.async false

/-! ### The end of an event -/

/-- R3, R12, R14: what ends a request's wait. -/
theorem waitEnded_iff (s0 s : State) :
    waitEnded s0 s = true ↔
      acceptStopped s0 = true ∧ acceptStopped s = false ∨ liveCount s < liveCount s0 ∨
        s.fence.list.length < s0.fence.list.length := by
  simp [waitEnded, or_assoc]

theorem finishEvent_examines {s0 s : State} {m : IReqMsg} (hm : s.acc.head = some m) (h : waitEnded s0 s = true) :
    finishEvent s0 s = drainTest (examine m s) := by
  simp [finishEvent, reexamine, hm, h]

theorem finishEvent_waits {s0 s : State} (h : s.acc.head = none ∨ ¬ waitEnded s0 s = true) :
    finishEvent s0 s = drainTest s := by
  obtain h | h := h
  · simp [finishEvent, reexamine, h]
  · cases hm : s.acc.head <;> simp [finishEvent, reexamine, hm, h]

/-! ### The QUIET condition (R154) -/

theorem isWrite_eq_false {op : MemOp} : op.isWrite = false ↔ ∃ sp, op = .mrd sp := by
  cases op <;> simp [MemOp.isWrite]

theorem writing_eq_false {x : TrackerEntry} :
    x.writing = false ↔
      ∀ req, ((∃ a n, x = .issued req a n) ∨ (∃ a n, x = .backoffWaiting req a n) ∨ ∃ a, x = .backoffOffered req a) →
        ∃ sp, req.op = .mrd sp := by
  cases x <;> simp [TrackerEntry.writing, isWrite_eq_false]

theorem isDirectWrite_eq_false {r : ReadRecord} : r.isDirectWrite = false ↔ r.access = .read := by
  cases h : r.access <;> simp [ReadRecord.isDirectWrite, h]

theorem quietCondition_iff (s : State) :
    quietCondition s = true ↔
      (∀ i, slotAt s i = none) ∧ (∀ r ∈ s.rd.reads, r.access = .read) ∧
        ∀ m req, ((∃ a n, entryAt s m = .issued req a n) ∨ (∃ a n, entryAt s m = .backoffWaiting req a n) ∨
          ∃ a, entryAt s m = .backoffOffered req a) → ∃ sp, req.op = .mrd sp := by
  have entries : (allMemTags.all fun m => !(s.trk.entries[m]).writing) = true ↔
      ∀ m, (entryAt s m).writing = false := by
    simp [allMemTags, entryAt]
  have reads : (s.rd.reads.all fun r => !r.isDirectWrite) = true ↔ ∀ r ∈ s.rd.reads, r.access = .read := by
    simp [isDirectWrite_eq_false]
  rw [quietCondition, Bool.and_eq_true, Bool.and_eq_true, noSlotLive_iff, entries, reads, and_assoc]
  refine and_congr_right fun _ => and_comm.trans (and_congr_right fun _ => forall_congr' fun m => writing_eq_false)

/-! ### Reads that fall back (R84, R108) -/

theorem readOf_isSome (s : State) (t : Tag) : (readOf s t).isSome = decide (t ∈ s.rd.reads.map (·.tag)) := by
  cases h : readOf s t with
  | none => simpa using readOf_eq_none.1 h
  | some r => simpa using ⟨r, readOf_mem h, readOf_tag h⟩

theorem afterFallBack_tags (ts : List Tag) (s : State) :
    (afterFallBack ts s).rd.reads.map (·.tag) = s.rd.reads.map (·.tag) := by
  simp only [afterFallBack, List.map_map]
  refine List.map_congr_left fun q _ => ?_
  simp only [Function.comp_apply]
  split <;> rfl

theorem afterFallBack_reads (ts : List Tag) (s : State) :
    (afterFallBack ts s).rd.reads = s.rd.reads.map fun q => if q.tag ∈ ts then { q with state := .waitGrant } else q :=
  rfl

theorem fallBackState_append (us ts : List Tag) (reads : List ReadRecord) :
    ((reads.map fun q => if q.tag ∈ us then { q with state := .waitGrant } else q).map fun q =>
      if q.tag ∈ ts then { q with state := .waitGrant } else q) =
      reads.map fun q => if q.tag ∈ us ++ ts then { q with state := .waitGrant } else q := by
  rw [List.map_map]
  refine List.map_congr_left fun q _ => ?_
  by_cases hu : q.tag ∈ us <;> by_cases ht : q.tag ∈ ts <;> simp [hu, ht]

/-- Reads that fall back after others do so in the order of the joined list. -/
theorem afterFallBack_append (us ts : List Tag) (s : State) :
    afterFallBack ts (afterFallBack us s) = afterFallBack (us ++ ts) s := by
  have held : ∀ t, (readOf (afterFallBack us s) t).isSome = (readOf s t).isSome := fun t => by
    rw [readOf_isSome, readOf_isSome, afterFallBack_tags]
  rw [afterFallBack, afterFallBack_reads, fallBackState_append]
  simp only [held]
  simp only [afterFallBack, List.filter_append, List.map_append, List.append_assoc]

theorem afterFallBack_unheld {ts : List Tag} {s : State} (h : ∀ t ∈ ts, readOf s t = none) : afterFallBack ts s = s := by
  have none : (ts.filter fun t => (readOf s t).isSome) = [] := by
    simpa [List.filter_eq_nil_iff] using h
  have reads : (s.rd.reads.map fun q => if q.tag ∈ ts then { q with state := .waitGrant } else q) = s.rd.reads := by
    refine (List.map_congr_left fun q hq => if_neg fun ht => ?_).trans (List.map_id _)
    exact readOf_eq_none.1 (h _ ht) q hq rfl
  rw [afterFallBack, none, reads, List.map_nil, List.append_nil]

/-- The tags of the pending records are their own. -/
def TagsApart (s : State) : Prop := (s.rd.reads.map (·.tag)).Nodup

theorem fallBack_eq {s : State} (h : TagsApart s) (t : Tag) : fallBack t s = afterFallBack [t] s := by
  cases hr : readOf s t with
  | none =>
    rw [afterFallBack_unheld (by simpa using hr)]
    simp [fallBack, hr]
  | some r =>
    have tag := readOf_tag hr
    subst tag
    have put := putRead_old (s := s) (r := { r with state := .waitGrant }) (q := r) hr
    have reads : (s.rd.reads.map fun q => if q.tag == r.tag then { r with state := .waitGrant } else q) =
        s.rd.reads.map fun q => if q.tag ∈ [r.tag] then { q with state := .waitGrant } else q := by
      refine List.map_congr_left fun q hq => ?_
      by_cases e : q.tag = r.tag
      · obtain rfl := List.inj_on_of_nodup_map h hq (readOf_mem hr) e
        simp
      · simp [e]
    simp only [fallBack, hr]
    rw [put, reads, afterFallBack]
    simp [hr]
    rfl

theorem fallBackAll_eq {s : State} (h : TagsApart s) (ts : List Tag) : fallBackAll ts s = afterFallBack ts s := by
  induction ts generalizing s with
  | nil => exact (afterFallBack_unheld (by simp)).symm
  | cons t ts ih =>
    have apart : TagsApart (afterFallBack [t] s) := by
      rw [TagsApart, afterFallBack_tags]; exact h
    change fallBackAll ts (fallBack t s) = _
    rw [fallBack_eq h, ih apart, afterFallBack_append, List.singleton_append]

/-! ### An invalidate request (R112) -/

/-- The state after the prefetch entries of a list have been spoiled, the recency order apart, which becomes `rec`. -/
def afterSpoiling (es : List PfIx) (rec : List PfIx) (s : State) : State :=
  afterFallBack (es.flatMap (requestedJoins s))
    { s with
      pf :=
        { entries := Vector.ofFn fun e =>
            if e ∈ es then (s.pf.entries[e]).bind PfEntry.invalidated else s.pf.entries[e]
          recency := rec }
      arb :=
        { s.arb with
          prefetch := s.arb.prefetch.filter fun r => es.all fun e => !(isRequested s e && r == .prefetch e) } }

theorem entries_ext {v w : Vector (Option PfEntry) 4} (h : ∀ e : PfIx, v[e] = w[e]) : v = w :=
  Vector.ext fun k hk => h ⟨k, hk⟩

theorem pfAt_afterSpoiling (es rec : List PfIx) (s : State) (e : PfIx) :
    pfAt (afterSpoiling es rec s) e = if e ∈ es then (pfAt s e).bind PfEntry.invalidated else pfAt s e :=
  Vector.getElem_ofFn e.isLt

theorem afterSpoiling_tags (es rec : List PfIx) (s : State) :
    (afterSpoiling es rec s).rd.reads.map (·.tag) = s.rd.reads.map (·.tag) :=
  afterFallBack_tags _ _

/-- Spoiling one entry after others. -/
theorem afterSpoiling_cons {e : PfIx} {es : List PfIx} (fresh : e ∉ es) (rec rec' : List PfIx) (s : State) :
    afterSpoiling es rec' (afterSpoiling [e] rec s) = afterSpoiling (e :: es) rec' s := by
  have other : ∀ f ∈ es, pfAt (afterSpoiling [e] rec s) f = pfAt s f := fun f hf => by
    have ne : f ∉ [e] := by simpa using fun h : f = e => fresh (h ▸ hf)
    rw [pfAt_afterSpoiling, if_neg ne]
  have joins : es.flatMap (requestedJoins (afterSpoiling [e] rec s)) = es.flatMap (requestedJoins s) := by
    refine List.flatMap_congr fun f hf => ?_
    rw [requestedJoins, other f hf]; rfl
  have requested : ∀ f ∈ es, isRequested (afterSpoiling [e] rec s) f = isRequested s f := fun f hf => by
    rw [isRequested, other f hf]; rfl
  have entries : (Vector.ofFn fun f : PfIx =>
      if f ∈ es then ((afterSpoiling [e] rec s).pf.entries[f]).bind PfEntry.invalidated
      else (afterSpoiling [e] rec s).pf.entries[f]) =
      Vector.ofFn fun f : PfIx =>
        if f ∈ e :: es then (s.pf.entries[f]).bind PfEntry.invalidated else s.pf.entries[f] := by
    congr 1
    funext f
    have get := pfAt_afterSpoiling [e] rec s f
    simp only [pfAt] at get
    rw [get]
    by_cases hf : f ∈ es
    · have ne : f ≠ e := fun h => fresh (h ▸ hf)
      simp [hf, ne]
    · simp [hf]
  have prefetch : ((afterSpoiling [e] rec s).arb.prefetch.filter fun r =>
      es.all fun f => !(isRequested (afterSpoiling [e] rec s) f && r == .prefetch f)) =
      s.arb.prefetch.filter fun r => (e :: es).all fun f => !(isRequested s f && r == .prefetch f) := by
    have first : (afterSpoiling [e] rec s).arb.prefetch =
        s.arb.prefetch.filter fun r => [e].all fun f => !(isRequested s f && r == .prefetch f) := rfl
    rw [first, List.filter_filter]
    refine List.filter_congr fun r _ => ?_
    have rest : (es.all fun f => !(isRequested (afterSpoiling [e] rec s) f && r == .prefetch f)) =
        es.all fun f => !(isRequested s f && r == .prefetch f) := by
      rw [Bool.eq_iff_iff, List.all_eq_true, List.all_eq_true]
      exact forall₂_congr fun f hf => by rw [requested f hf]
    rw [rest, List.all_cons, List.all_cons, List.all_nil, Bool.and_true, Bool.and_comm]
  have append : (e :: es).flatMap (requestedJoins s) =
      [e].flatMap (requestedJoins s) ++ es.flatMap (requestedJoins s) := by simp
  rw [afterSpoiling, joins, entries, prefetch]
  conv_rhs => rw [afterSpoiling, append, ← afterFallBack_append]
  rfl

theorem afterSpoiling_singleton (e : PfIx) (rec : List PfIx) (s : State) :
    afterSpoiling [e] rec s =
      afterFallBack (requestedJoins s e)
        { s with
          pf := { entries := s.pf.entries.set e ((pfAt s e).bind PfEntry.invalidated), recency := rec }
          arb :=
            { s.arb with
              prefetch := s.arb.prefetch.filter fun r => !(isRequested s e && r == .prefetch e) } } := by
  have entries : (Vector.ofFn fun f : PfIx =>
      if f ∈ [e] then (s.pf.entries[f]).bind PfEntry.invalidated else s.pf.entries[f]) =
      s.pf.entries.set e ((pfAt s e).bind PfEntry.invalidated) := entries_ext fun f => by
    simp only [Fin.getElem_fin, Vector.getElem_ofFn, Vector.getElem_set, List.mem_singleton, pfAt, Fin.ext_iff]
    by_cases same : f.val = e.val
    · simp [same]
    · simp [same, Ne.symm same]
  rw [afterSpoiling, entries, List.flatMap_singleton]
  simp only [List.all_cons, List.all_nil, Bool.and_true]

/-- An entry that is not REQUESTED is spoiled alone. -/
theorem afterSpoiling_other {s : State} {e : PfIx} (rec : List PfIx) (h : isRequested s e = false) :
    afterSpoiling [e] rec s =
      s.setPf { entries := s.pf.entries.set e ((pfAt s e).bind PfEntry.invalidated), recency := rec } := by
  have joins : requestedJoins s e = [] := by
    unfold isRequested at h
    unfold requestedJoins
    split <;> simp_all
  have prefetch : (s.arb.prefetch.filter fun r => !(isRequested s e && r == .prefetch e)) = s.arb.prefetch := by
    simp [h]
  rw [afterSpoiling_singleton, joins, prefetch]
  exact afterFallBack_unheld (by simp)

theorem setPf_self {s : State} {e : PfIx} {y : Option PfEntry} (h : pfAt s e = y) :
    s.setPf { entries := s.pf.entries.set e y, recency := s.pf.recency } = s := by
  have same : s.pf.entries.set e y = s.pf.entries := by
    subst h
    exact Vector.set_getElem_self e.isLt
  rw [same]; rfl

theorem emptyPf_singleton (e : PfIx) (s : State) :
    emptyPf [e] s = s.setPf { entries := s.pf.entries.set e none, recency := toLru [e] s.pf.recency } := by
  have entries : (Vector.ofFn fun f : PfIx => if [e].contains f then none else s.pf.entries[f]) =
      s.pf.entries.set e none := entries_ext fun f => by
    simp only [Fin.getElem_fin, Vector.getElem_ofFn, Vector.getElem_set, List.contains_iff_mem, List.mem_singleton,
      Fin.ext_iff, eq_comm (a := f.val)]
  rw [emptyPf, entries]

/-- One entry spoiled (R109, R112), by its state. -/
theorem spoilEntry_eq {s : State} (h : TagsApart s) (e : PfIx) : ∃ rec, spoilEntry e s = afterSpoiling [e] rec s := by
  cases hx : pfAt s e with
  | none =>
    refine ⟨s.pf.recency, ?_⟩
    rw [afterSpoiling_other _ (by simp [isRequested, hx]), hx, Option.bind_none, setPf_self hx]
    simp [spoilEntry, hx]
  | some x =>
    obtain ⟨line, window, state⟩ := x
    cases state with
    | valid d =>
      refine ⟨toLru [e] s.pf.recency, ?_⟩
      rw [afterSpoiling_other _ (by simp [isRequested, hx]), hx]
      simp only [spoilEntry, hx]
      exact emptyPf_singleton e s
    | requested joins =>
      refine ⟨toLru [e] s.pf.recency, ?_⟩
      have requested : isRequested s e = true := by simp [isRequested, hx]
      have waiting : requestedJoins s e = joins := by simp [requestedJoins, hx]
      rw [afterSpoiling_singleton, requested, waiting, hx]
      simp only [spoilEntry, hx]
      rw [emptyPf_singleton, fallBackAll_eq (s := (withdraw .prefetch (.prefetch e) s).setPf _) h]
      simp only [Bool.true_and]
      rfl
    | pending joins =>
      refine ⟨s.pf.recency, ?_⟩
      rw [afterSpoiling_other _ (by simp [isRequested, hx]), hx]
      simp only [spoilEntry, hx]
      rfl
    | stale joins =>
      refine ⟨s.pf.recency, ?_⟩
      rw [afterSpoiling_other _ (by simp [isRequested, hx]), hx]
      simp only [spoilEntry, hx]
      exact (setPf_self hx).symm

theorem spoilAll_eq {s : State} (h : TagsApart s) {es : List PfIx} (nodup : es.Nodup) :
    ∃ rec, es.foldl (fun u e => spoilEntry e u) s = afterSpoiling es rec s := by
  induction es generalizing s with
  | nil =>
    refine ⟨s.pf.recency, ?_⟩
    have entries : (Vector.ofFn fun f : PfIx => s.pf.entries[f]) = s.pf.entries :=
      entries_ext fun f => Vector.getElem_ofFn f.isLt
    simp only [afterSpoiling, List.not_mem_nil, if_false, entries, List.all_nil, List.filter_true, List.flatMap_nil]
    exact (afterFallBack_unheld (by simp)).symm
  | cons e es ih =>
    obtain ⟨fresh, nodup⟩ := List.nodup_cons.1 nodup
    obtain ⟨rec, first⟩ := spoilEntry_eq h e
    have apart : TagsApart (afterSpoiling [e] rec s) := by
      rw [TagsApart, afterSpoiling_tags]; exact h
    obtain ⟨rec', rest⟩ := ih apart nodup
    exact ⟨rec', by rw [List.foldl_cons, first, rest, afterSpoiling_cons fresh]⟩

theorem invalidateEmpties_eq (s : State) (e : PfIx) : invalidateEmpties s e = isEmptied s e := by
  unfold invalidateEmpties isEmptied
  cases pfAt s e with
  | none => rfl
  | some x => rcases x with ⟨_, _, _ | _ | _ | _⟩ <;> rfl

theorem toLru_emptied (s : State) :
    toLru (allPf.filter (invalidateEmpties s)) s.pf.recency =
      s.pf.recency.filter (isEmptied s) ++ s.pf.recency.filter fun e => !isEmptied s e := by
  have listed : ∀ e, (allPf.filter (invalidateEmpties s)).contains e = isEmptied s e := fun e => by
    rw [← invalidateEmpties_eq, Bool.eq_iff_iff, List.contains_iff_mem, List.mem_filter]
    exact and_iff_right (List.mem_finRange e)
  simp only [toLru, listed]

theorem invalidate_eq {s : State} (h : TagsApart s) : invalidate s = afterInvalidation s := by
  obtain ⟨rec, spoiled⟩ := spoilAll_eq h (List.nodup_finRange 4)
  have entries : (Vector.ofFn fun e : PfIx =>
      if e ∈ List.finRange 4 then (s.pf.entries[e]).bind PfEntry.invalidated else s.pf.entries[e]) =
      Vector.ofFn fun e : PfIx => (s.pf.entries[e]).bind PfEntry.invalidated := by
    simp
  have spoiled : allPf.foldl (fun u e => spoilEntry e u) s = afterSpoiling (List.finRange 4) rec s := spoiled
  rw [invalidate, toLru_emptied, spoiled, afterInvalidation, ← entries]
  rfl

/-! ### The QUIET test (R154, R155, R161) -/

theorem quietTest_fails {s : State} (h : s.quiesce.state ≠ .quiescing ∨ quietCondition s = false) :
    quietTest s = s := by
  rw [quietTest, if_neg]
  obtain h | h := h <;> simp [h]

theorem quietTest_passes {s : State} (hs : s.quiesce.state = .quiescing) (hc : quietCondition s = true) :
    quietTest s = enterQuiet s := by
  simp [quietTest, hs, hc]

/-- The quiesce controller once QUIET is entered and left again where no requester remains (R155, R156). -/
def QuiesceController.settled (q : QuiesceController) : QuiesceController :=
  { state := if q.drainHeld then .quiet else .run, commitPending := false, drainHeld := q.drainHeld
    drnAck := q.drainHeld }

/-- R155: once any pending commit is applied, the controller stands in QUIET, or returns to RUN. -/
theorem enterQuiet_settles {s t : State}
    (ht : (if s.quiesce.commitPending then applyCommit (s.setQuiesce { s.quiesce with state := .quiet })
      else s.setQuiesce { s.quiesce with state := .quiet }) = t)
    (hs : t.quiesce.state = .quiet) (hc : t.quiesce.commitPending = false) :
    enterQuiet s = t.setQuiesce t.quiesce.settled := by
  have entered : enterQuiet s =
      if t.quiesce.drainHeld then t.setQuiesce { t.quiesce with drnAck := true } else returnToRun t := by
    rw [← ht]; rfl
  rw [entered]
  cases held : t.quiesce.drainHeld <;> simp [returnToRun, QuiesceController.settled, held, hs, hc]

/-- R155 without a pending commit. -/
theorem enterQuiet_idle {s : State} (h : s.quiesce.commitPending = false) :
    enterQuiet s = { s with quiesce := s.quiesce.settled } :=
  enterQuiet_settles (t := s.setQuiesce { s.quiesce with state := .quiet }) (by simp [h]) rfl h

/-- R161: what a commit applied comes to. -/
theorem applyCommit_eq {s : State} (apart : TagsApart s) :
    applyCommit s =
      { afterInvalidation s with
        win := { s.win with active := s.win.staged }
        quiesce := { s.quiesce with commitPending := false }
        irq := { s.irq with status := s.irq.status ||| 16 }
        port := { s.port with result := .done } } := by
  have apart' : TagsApart (s.setWin { s.win with active := s.win.staged }) := apart
  rw [applyCommit, invalidate_eq apart']
  rfl

/-- R155, R161 with a pending commit. -/
theorem enterQuiet_commit {s : State} (h : s.quiesce.commitPending = true) (apart : TagsApart s) :
    enterQuiet s =
      { afterInvalidation s with
        win := { s.win with active := s.win.staged }
        quiesce := s.quiesce.settled
        irq := { s.irq with status := s.irq.status ||| 16 }
        port := { s.port with result := .done } } :=
  enterQuiet_settles
    ((if_pos h).trans (applyCommit_eq (s := s.setQuiesce { s.quiesce with state := .quiet }) apart)) rfl rfl

/-- Settles O4: what ends a wait (`waitEnded_iff`), what stops acceptance (`acceptStopped_iff`), the QUIET condition
(`quietCondition_iff`) and what the QUIET test comes to (`enterQuiet_idle`, `enterQuiet_commit`). -/
theorem eventEnds : Obligations.EventEnds := by
  refine ⟨fun s m hr => exec_requestPresented m hr, fun s0 s ended he => ⟨fun m hm h => ?_, fun h => ?_⟩,
    acceptStopped_iff, quietCondition_iff, fun s after ha => ⟨quietTest_fails, fun hs hc => ⟨fun idle => ?_,
      fun pending tags => ?_⟩⟩⟩
  · subst he
    exact finishEvent_examines hm ((waitEnded_iff s0 s).2 h)
  · subst he
    exact finishEvent_waits (h.imp_right (mt (waitEnded_iff s0 s).1))
  · rw [quietTest_passes hs hc, enterQuiet_idle idle, ha]; rfl
  · rw [quietTest_passes hs hc, enterQuiet_commit pending tags.2.1.1, ha]; rfl

end Sys2Proof.Machine
end

section
/-! PROOFS. The age list and the drain queue stand for the slots (O58): what the two lists read of a slot, and when a change keeps them whole. -/

namespace Sys2Proof.Machine

set_option Elab.async false

/-! ### What the two lists read of a slot -/

/-- Whether a slot is FILLING; none where it is EMPTY. The age list and the drain queue depend on nothing else of it. -/
def slotKind (s : State) (i : SlotIx) : Option Bool := (slotAt s i).map Slot.isFilling

theorem slotKind_of_some {s : State} {i : SlotIx} {x : Slot} (h : slotAt s i = some x) :
    slotKind s i = some x.isFilling := by
  simp only [slotKind, h, Option.map_some]

theorem slotLive_iff_kind (s : State) (i : SlotIx) : slotLive s i = true ↔ slotKind s i ≠ none := by
  simp [slotLive, slotKind, Option.isSome_iff_ne_none]

theorem slotQueued_iff_kind (s : State) (i : SlotIx) : slotQueued s i = true ↔ slotKind s i = some false := by
  cases h : slotAt s i <;> simp [slotQueued, slotLive, slotFilling, slotKind, h]

/-- A list names exactly the slots with a property, each once. -/
def Names (l : List SlotIx) (p : SlotIx → Prop) : Prop := l.Nodup ∧ ∀ i, i ∈ l ↔ p i

theorem Names.congr {l : List SlotIx} {p q : SlotIx → Prop} (h : Names l p) (e : ∀ i, p i ↔ q i) : Names l q :=
  ⟨h.1, fun i => (h.2 i).trans (e i)⟩

/-- A slot that gains the property joins the end of the list. -/
theorem Names.append {l : List SlotIx} {p q : SlotIx → Prop} {i : SlotIx} (h : Names l p) (fresh : ¬ p i)
    (e : ∀ j, q j ↔ p j ∨ i = j) : Names (l ++ [i]) q := by
  obtain ⟨nodup, mem⟩ := h
  refine ⟨List.nodup_append'.2 ⟨nodup, by simp, by simpa [mem] using fresh⟩, fun j => ?_⟩
  rw [e, List.mem_append, mem, List.mem_singleton, eq_comm (a := i)]

/-- A slot that loses the property leaves the list. -/
theorem Names.remove {l : List SlotIx} {p q : SlotIx → Prop} {i : SlotIx} (h : Names l p)
    (e : ∀ j, q j ↔ p j ∧ i ≠ j) : Names (l.filter (· != i)) q := by
  obtain ⟨nodup, mem⟩ := h
  refine ⟨nodup.filter _, fun j => ?_⟩
  rw [e, List.mem_filter, mem, bne_iff_ne, ne_comm]

/-- R19, R46, through `slotKind`: the age list names the slots that have one, the drain queue those not FILLING. -/
theorem bufferWhole_iff (s : State) :
    BufferWhole s ↔
      Names s.buf.ages (slotKind s · ≠ none) ∧ Names (s.drain.queue.map (·.slot)) (slotKind s · = some false) := by
  simp only [BufferWhole, AgesWhole, DrainQueueWhole, Names, slotLive_iff_kind, slotQueued_iff_kind]

theorem slotKind_putSlot (i j : SlotIx) (x : Option Slot) (s : State) :
    slotKind (putSlot i x s) j = if i = j then x.map Slot.isFilling else slotKind s j := by
  unfold slotKind
  rw [slotAt_putSlot]
  split <;> rfl

theorem slotKind_map {s t : State} {i : SlotIx} {f : Slot → Slot} (h : slotAt t i = (slotAt s i).map f)
    (hf : ∀ x, (f x).isFilling = x.isFilling) : slotKind t i = slotKind s i := by
  have same : Slot.isFilling ∘ f = Slot.isFilling := funext hf
  rw [slotKind, h, Option.map_map, same, slotKind]

theorem slotKind_dropBlocker (t : Tag) (s : State) (i : SlotIx) : slotKind (dropBlocker t s) i = slotKind s i :=
  slotKind_map (f := fun x => { x with blockers := x.blockers.filter (· != t) }) (by simp [slotAt, dropBlocker])
    fun _ => rfl

theorem tick_isFilling (x : Slot) : x.tick.isFilling = x.isFilling := by
  unfold Slot.tick Slot.isFilling
  cases h : x.phase with
  | filling hold => cases hold <;> simp [h]
  | sealed => simp [h]
  | draining ps => simp [h]

theorem slotKind_countTick (s : State) (i : SlotIx) : slotKind (countTick s) i = slotKind s i :=
  slotKind_map (f := Slot.tick) (by simp [slotAt, countTick]) tick_isFilling

/-- Only a DRAINING slot has pieces (R18). -/
theorem isFilling_of_pieces {x : Slot} (h : x.pieces ≠ []) : x.isFilling = false := by
  unfold Slot.pieces at h
  unfold Slot.isFilling
  split <;> simp_all

theorem ne_nil_of_firstWaiting {ps : List Piece} {kp : Nat × Piece} (h : firstWaiting ps = some kp) : ps ≠ [] := by
  rintro rfl
  simp [firstWaiting] at h

/-- R47 to R50: an eligible slot is SEALED. -/
theorem sealed_of_eligible {s : State} {i : SlotIx} {x : Slot} (h : eligible s i = true) (hx : slotAt s i = some x) :
    x.phase = .sealed := by
  simp only [eligible, hx, Bool.and_eq_true, beq_iff_eq] at h
  obtain ⟨⟨⟨⟨sealed, -⟩, -⟩, -⟩, -⟩ := h
  exact sealed

theorem eligible_of_firstEligible {s : State} {e : DrainEntry} (h : firstEligible s = some e) :
    eligible s e.slot = true :=
  List.find?_some (p := fun e : DrainEntry => eligible s e.slot) h

theorem slotLive_of_firstEmptySlot {s : State} {i : SlotIx} (h : firstEmptySlot s = some i) : slotLive s i = false := by
  simpa using List.find?_some (p := fun i => !slotLive s i) h

/-! ### Keeping the two lists whole -/

/-- `t` has its age list and drain queue whole if `s` does. -/
def KeepsBuffer (s t : State) : Prop := BufferWhole s → BufferWhole t

theorem KeepsBuffer.refl (s : State) : KeepsBuffer s s := id

theorem KeepsBuffer.trans {s t u : State} (h : KeepsBuffer s t) (k : KeepsBuffer t u) : KeepsBuffer s u := k ∘ h

theorem KeepsBuffer.foldl {α : Type} (f : State → α → State) (hf : ∀ s a, KeepsBuffer s (f s a)) (l : List α)
    (s : State) : KeepsBuffer s (l.foldl f s) := by
  induction l generalizing s with
  | nil => exact .refl s
  | cons a l ih => exact (hf s a).trans (ih (f s a))

/-- A change that leaves the two lists, and each slot EMPTY, FILLING or neither as it was. -/
theorem KeepsBuffer.of_kinds {s t : State} (kind : ∀ i, slotKind t i = slotKind s i) (ages : t.buf.ages = s.buf.ages)
    (queue : t.drain.queue.map (·.slot) = s.drain.queue.map (·.slot)) : KeepsBuffer s t := fun h => by
  rw [bufferWhole_iff] at h ⊢
  simpa only [kind, ages, queue] using h

/-- An operation on other blocks. -/
theorem KeepsBuffer.of_frame {bs : List Block} {s t : State} (f : Frame bs s t)
    (hb : ∀ b ∈ bs, b ∉ [Block.buf, .drain] := by decide) : KeepsBuffer s t := by
  have buf : t.buf = s.buf := f .buf fun hm => hb _ hm (by decide)
  have drain : t.drain = s.drain := f .drain fun hm => hb _ hm (by decide)
  exact .of_kinds (fun i => by simp only [slotKind, slotAt, buf]) (by rw [buf]) (by rw [drain])

/-- A slot record in the place of one that is FILLING as well, or not FILLING as well. -/
theorem keepsBuffer_putSlot {s : State} {i : SlotIx} {x y : Slot} (h : slotAt s i = some x)
    (hf : y.isFilling = x.isFilling) : KeepsBuffer s (putSlot i (some y) s) := by
  refine .of_kinds (fun j => ?_) rfl rfl
  rw [slotKind_putSlot]
  split
  · next e => subst e; rw [slotKind_of_some h, Option.map_some, hf]
  · rfl

/-- R28: a slot that leaves FILLING joins the drain queue, in which it did not stand. -/
theorem keepsBuffer_sealSlot (i : SlotIx) (s : State) : KeepsBuffer s (sealSlot i s) := by
  cases filling : slotFilling s i with
  | false => rw [sealSlot_other filling]; exact .refl s
  | true =>
    obtain ⟨x, hx⟩ : ∃ x, slotAt s i = some x := by
      cases hx : slotAt s i with
      | none => simp [slotFilling, hx] at filling
      | some x => exact ⟨x, rfl⟩
    have hf : x.isFilling = true := slotFilling_of_some hx ▸ filling
    have before : slotKind s i = some true := hf ▸ slotKind_of_some hx
    have sealed := sealSlot_filling hx hf
    have after : ∀ j, slotKind (sealSlot i s) j = if i = j then some false else slotKind s j := fun j => by
      rw [sealed]
      exact slotKind_putSlot i j (some { x with phase := .sealed }) s
    have ages : (sealSlot i s).buf.ages = s.buf.ages := by rw [sealed]; rfl
    have queue : (sealSlot i s).drain.queue.map (·.slot) = s.drain.queue.map (·.slot) ++ [i] := by
      rw [sealed]; exact List.map_append
    intro h
    rw [bufferWhole_iff] at h ⊢
    obtain ⟨live, queued⟩ := h
    rw [ages, queue]
    refine ⟨live.congr fun j => ?_, queued.append (by simp [before]) fun j => ?_⟩
    all_goals
      obtain rfl | e := eq_or_ne i j
      · simp [after, before]
      · simp [after, e]

/-- R21: an EMPTY slot that is opened joins the age list, in which it did not stand. -/
theorem keepsBuffer_openSlot {s : State} {i : SlotIx} (r : Request) (c : Classification) (h : slotLive s i = false) :
    KeepsBuffer s (openSlot i r c s) := fun w => by
  have before : slotKind s i = none := by
    simpa [slotLive_iff_kind] using Bool.eq_false_iff.1 h
  have after : ∀ j, slotKind (openSlot i r c s) j = if i = j then some true else slotKind s j := fun j =>
    slotKind_putSlot i j (some (openedSlot r c s)) s
  rw [bufferWhole_iff] at w ⊢
  obtain ⟨live, queued⟩ := w
  refine ⟨live.append (by simp [before]) fun j => ?_, queued.congr fun j => ?_⟩
  all_goals
    obtain rfl | e := eq_or_ne i j
    · simp [after, before]
    · simp [after, e]

/-- R40, step 2: a slot that becomes EMPTY leaves both lists. -/
theorem keepsBuffer_emptySlot (i : SlotIx) (s : State) : KeepsBuffer s (emptySlot i s) := fun h => by
  have after : ∀ j, slotKind (emptySlot i s) j = if i = j then none else slotKind s j :=
    fun j => slotKind_putSlot i j none s
  have queue : (emptySlot i s).drain.queue.map (·.slot) = (s.drain.queue.map (·.slot)).filter (· != i) := by
    rw [List.filter_map]; rfl
  rw [bufferWhole_iff] at h ⊢
  obtain ⟨live, queued⟩ := h
  rw [queue]
  refine ⟨live.remove fun j => ?_, queued.remove fun j => ?_⟩
  all_goals
    obtain rfl | e := eq_or_ne i j
    · simp [after]
    · simp [after, e]

/-- Two empty lists are whole where every slot is EMPTY. -/
theorem bufferWhole_of_empty {s : State} (slots : ∀ i, slotAt s i = none) (ages : s.buf.ages = [])
    (queue : s.drain.queue = []) : BufferWhole s := by
  simp [bufferWhole_iff, Names, slotKind, slots, ages, queue]

/-- R46, R26: a tick moves counts only. -/
theorem keepsBuffer_countTick (s : State) : KeepsBuffer s (countTick s) :=
  .of_kinds (slotKind_countTick s) rfl (by simp [countTick])

/-- R89: an answered read leaves the blocker lists only. -/
theorem keepsBuffer_answerRead (a : Response) (s : State) : KeepsBuffer s (answerRead a s) :=
  .of_kinds (slotKind_dropBlocker a.tag (pushResponse a s)) rfl rfl

end Sys2Proof.Machine
end

section
/-! PROOFS. Every event keeps the age list and the drain queue whole (O58): only the operations that reach the combining buffer or the drain queue are walked through, the others by their frames. -/

namespace Sys2Proof.Machine

set_option Elab.async false

/-! ### Sealing and beginning slots -/

theorem keepsBuffer_sealAll (s : State) : KeepsBuffer s (sealAll s) :=
  .foldl _ (fun t i => keepsBuffer_sealSlot i t) _ s

theorem keepsBuffer_sealLine (l : Line) (s : State) : KeepsBuffer s (sealLine l s) := by
  unfold sealLine; split
  · exact keepsBuffer_sealSlot _ s
  · exact .refl s

theorem keepsBuffer_pressureSeal (s : State) : KeepsBuffer s (pressureSeal s) := by
  unfold pressureSeal; split
  · exact keepsBuffer_sealSlot _ s
  · exact .refl s

/-- R39, R52: the slot begun is SEALED, and as a DRAINING one it keeps its place in both lists. -/
theorem keepsBuffer_drainTest (s : State) : KeepsBuffer s (drainTest s) := by
  unfold drainTest; split
  · exact .refl s
  · split
    · next e he =>
      unfold beginSlot; split
      · next x hx =>
        have sealed : x.phase = .sealed := sealed_of_eligible (eligible_of_firstEligible he) hx
        have notFilling : x.isFilling = false := by simp [Slot.isFilling, sealed]
        exact (keepsBuffer_putSlot (y := { x with phase := .draining (formPieces x.valid) }) hx notFilling.symm).trans
          (.of_frame (frame_offer _ _ _))
      · exact .refl s
    · exact .refl s

/-! ### Reads -/

theorem keepsBuffer_serveRead (r : ReadRecord) (e : PfIx) (d : Lanes) (s : State) :
    KeepsBuffer s (serveRead r e d s) :=
  ((keepsBuffer_answerRead _ s).trans (.of_frame (frame_markMru _ _))).trans (.of_frame (frame_readTrigger _ _))

theorem keepsBuffer_routeRead (r : ReadRecord) (s : State) : KeepsBuffer s (routeRead r s) := by
  have demand : KeepsBuffer s (demandRead r s) := .of_frame (frame_demandRead r s)
  unfold routeRead; split
  · split
    · exact demand
    · split
      · exact demand
      · split
        · exact keepsBuffer_serveRead _ _ _ s
        · exact .of_frame (frame_joinRead _ _ _ _ s)
        · exact .of_frame (frame_joinRead _ _ _ _ s)
        · exact demand
  · exact demand

theorem keepsBuffer_releaseRead (i : SlotIx) (t : Tag) (s : State) : KeepsBuffer s (releaseRead i t s) := by
  unfold releaseRead; split
  · exact .refl s
  · split
    · split
      · dsimp only
        split
        · exact keepsBuffer_routeRead _ s
        · exact .of_frame (frame_putRead _ s)
      · exact .refl s
    all_goals exact .refl s

theorem keepsBuffer_releaseReads (i : SlotIx) (s : State) : KeepsBuffer s (releaseReads i s) :=
  .foldl _ (fun u t => keepsBuffer_releaseRead i t u) _ s

/-! ### The end of a slot -/

theorem keepsBuffer_completeIfResolved (i : SlotIx) (s : State) : KeepsBuffer s (completeIfResolved i s) := by
  have completes : ∀ x, KeepsBuffer s (completeSlot i x s) := fun x =>
    ((((KeepsBuffer.of_frame (frame_answerWaiters x s)).trans (keepsBuffer_emptySlot i _)).trans
      (keepsBuffer_releaseReads i _)).trans (.of_frame (frame_fenceTest _))).trans (.of_frame (frame_directTest _))
  unfold completeIfResolved; split
  · split
    · exact completes _
    · exact .refl s
  · exact .refl s

/-- A slot with a piece is DRAINING, and marking a piece leaves it so. -/
theorem keepsBuffer_mark {s : State} {i : SlotIx} {x : Slot} (hx : slotAt s i = some x) (hp : x.pieces ≠ [])
    (k : Nat) (o : PieceOutcome) : KeepsBuffer s (putSlot i (some (x.mark k o)) s) :=
  keepsBuffer_putSlot (y := x.mark k o) hx (isFilling_of_pieces hp).symm

theorem keepsBuffer_pieceDone (i : SlotIx) (k : Fin 8) (s : State) : KeepsBuffer s (pieceDone i k s) := by
  unfold pieceDone; split
  · next x hx =>
    split
    · next p hp =>
      have pieces : x.pieces ≠ [] := by intro e; simp [e] at hp
      exact (keepsBuffer_mark hx pieces k.val .done).trans (keepsBuffer_completeIfResolved _ _)
    · exact .refl s
  · exact .refl s

theorem keepsBuffer_pieceLost (i : SlotIx) (k : Fin 8) (cause : LossCause) (a : Nat) (s : State) :
    KeepsBuffer s (pieceLost i k cause a s) := by
  unfold pieceLost; split
  · next x hx =>
    split
    · next p hp =>
      have pieces : x.pieces ≠ [] := by intro e; simp [e] at hp
      exact ((keepsBuffer_mark hx pieces k.val .lost).trans (.of_frame (frame_reportLoss _ _))).trans
        (keepsBuffer_completeIfResolved _ _)
    · exact .refl s
  · exact .refl s

/-! ### Acceptance -/

theorem keepsBuffer_takeHead (s : State) : KeepsBuffer s (takeHead s) := .of_frame (frame_takeHead s)

theorem keepsBuffer_mergeSlot (i : SlotIx) (r : Request) (s : State) : KeepsBuffer s (mergeSlot i r s) := by
  unfold mergeSlot; split
  · next x hx => exact keepsBuffer_putSlot hx rfl
  · exact .refl s

theorem keepsBuffer_answerWrite (i : SlotIx) (r : Request) (s : State) : KeepsBuffer s (answerWrite i r s) := by
  have added : KeepsBuffer s (addWaiter i r.tag s) := by
    unfold addWaiter; split
    · next x hx => exact keepsBuffer_putSlot hx rfl
    · exact .refl s
  unfold answerWrite; split
  · exact added.trans (.of_frame (frame_setTag _ _ _))
  · exact .of_frame (frame_pushResponse _ s)

theorem keepsBuffer_finishWrite (i : SlotIx) (r : Request) (c : Classification) (s : State) :
    KeepsBuffer s (finishWrite i r c s) := by
  have triggers : ∀ u, KeepsBuffer u (sealTriggers i r c u) := fun u => by
    unfold sealTriggers; split
    · exact keepsBuffer_sealSlot i u
    · exact .refl u
  exact ((keepsBuffer_answerWrite i r s).trans (triggers _)).trans (.of_frame (frame_writeReport _ _))

theorem keepsBuffer_acceptWrite (m : IReqMsg) (r : Request) (c : Classification) (s : State) :
    KeepsBuffer s (acceptWrite m r c s) := by
  unfold acceptWrite; split
  · exact ((keepsBuffer_takeHead s).trans (keepsBuffer_mergeSlot _ r _)).trans (keepsBuffer_finishWrite _ r c _)
  · split
    · next i hi =>
      have empty : slotLive (takeHead s) i = false := slotLive_of_firstEmptySlot hi
      exact ((keepsBuffer_takeHead s).trans (keepsBuffer_openSlot r c empty)).trans (keepsBuffer_finishWrite i r c _)
    · exact (keepsBuffer_pressureSeal s).trans (.of_frame (frame_setHead _ _))

theorem keepsBuffer_acceptRead (r : Request) (c : Classification) (s : State) : KeepsBuffer s (acceptRead r c s) := by
  have taken : KeepsBuffer s (setTag r.tag .read (takeHead s)) :=
    (keepsBuffer_takeHead s).trans (.of_frame (frame_setTag _ _ _))
  unfold acceptRead
  dsimp only
  split
  · split
    · exact taken.trans (keepsBuffer_answerRead _ _)
    · exact (taken.trans (.of_frame (frame_putRead _ _))).trans (keepsBuffer_sealLine _ _)
  · exact taken.trans (keepsBuffer_routeRead _ _)

theorem keepsBuffer_acceptFence (m : IReqMsg) (r : Request) (s : State) : KeepsBuffer s (acceptFence m r s) := by
  have taken : KeepsBuffer s (setTag r.tag .fence (takeHead s)) :=
    (keepsBuffer_takeHead s).trans (.of_frame (frame_setTag _ _ _))
  unfold acceptFence; split
  · exact ((taken.trans (keepsBuffer_sealAll _)).trans (.of_frame (frame_setFence _ _))).trans
      (.of_frame (frame_fenceTest _))
  · exact .of_frame (frame_setHead _ s)

theorem keepsBuffer_acceptDirect (op : AccessOp) (r : Request) (c : Classification) (s : State) :
    KeepsBuffer s (acceptDirect op r c s) := by
  have sealed : KeepsBuffer s (sealAll (putRead (directRecord op r c) (setTag r.tag (.direct op) (takeHead s)))) :=
    (((keepsBuffer_takeHead s).trans (.of_frame (frame_setTag _ _ _))).trans (.of_frame (frame_putRead _ _))).trans
      (keepsBuffer_sealAll _)
  cases op with
  | read => exact sealed.trans (.of_frame (frame_directTest _))
  | write => exact (sealed.trans (.of_frame (frame_writeReport _ _))).trans (.of_frame (frame_directTest _))

theorem keepsBuffer_dispatchAccess (op : AccessOp) (m : IReqMsg) (r : Request) (s : State) :
    KeepsBuffer s (dispatchAccess op m r s) := by
  unfold dispatchAccess
  dsimp only
  split
  · exact .of_frame (frame_rejectRequest r s)
  · exact keepsBuffer_acceptDirect _ r _ s
  · exact keepsBuffer_acceptWrite m r _ s
  · exact keepsBuffer_acceptWrite m r _ s
  · exact keepsBuffer_acceptRead r _ s
  · exact keepsBuffer_acceptRead r _ s

theorem keepsBuffer_dispatch (m : IReqMsg) (r : Request) (s : State) : KeepsBuffer s (dispatch m r s) := by
  unfold dispatch; split
  · exact keepsBuffer_acceptFence m r s
  · exact keepsBuffer_dispatchAccess _ m r s
  · exact keepsBuffer_dispatchAccess _ m r s
  · exact .refl s

theorem keepsBuffer_examine (m : IReqMsg) (s : State) : KeepsBuffer s (examine m s) := by
  unfold examine
  dsimp only
  split
  · exact .of_frame (frame_setHead _ s)
  · split
    · exact .of_frame (frame_dropInUse _ s)
    · split
      · exact .of_frame (frame_answerMalformed _ _ s)
      · exact keepsBuffer_dispatch m _ s

theorem keepsBuffer_finishEvent (s0 s : State) : KeepsBuffer s (finishEvent s0 s) := by
  refine KeepsBuffer.trans (t := reexamine s0 s) ?_ (keepsBuffer_drainTest _)
  unfold reexamine; split
  · split
    · exact keepsBuffer_examine _ s
    · exact .refl s
  · exact .refl s

theorem keepsBuffer_present (msg : Option IReqMsg) (s : State) : KeepsBuffer s (present msg s) := by
  unfold present; split
  · exact (keepsBuffer_examine _ s).trans (keepsBuffer_drainTest _)
  · exact .of_frame (frame_setHead none s)

/-! ### Grants -/

theorem keepsBuffer_grantPiece {i : SlotIx} {x : Slot} {s : State} (hx : slotAt s i = some x) (hp : x.pieces ≠ [])
    (k : Nat) (p : Piece) : KeepsBuffer s (grantPiece i x k p s) := by
  have issued := fun req => (KeepsBuffer.of_frame (frame_sendFirst req s)).trans
    (keepsBuffer_mark ((slotAt_sendFirst req s i).trans hx) hp k .issued)
  unfold grantPiece
  dsimp only
  split
  · exact (issued _).trans (.of_frame (frame_offer _ _ _))
  · exact (issued _).trans (keepsBuffer_drainTest _)

theorem keepsBuffer_grantDrainHead (s : State) : KeepsBuffer s (grantDrainHead s) := by
  unfold grantDrainHead; split
  · exact .refl s
  · split
    · exact .refl s
    · next x hx =>
      split
      · next hw => exact keepsBuffer_grantPiece hx (ne_nil_of_firstWaiting hw) _ _
      · exact .refl s

/-- R86: a demand read's grant acts on no slot. -/
theorem keepsBuffer_grantRead (t : Tag) (s : State) : KeepsBuffer s (grantRead t s) := by
  unfold grantRead; split
  · exact ((KeepsBuffer.of_frame (frame_sendFirst _ s)).trans (.of_frame (frame_putRead _ _))).trans
      (.of_frame (frame_readTrigger _ _))
  · exact .refl s

/-- R93, R94: nor does one of the DIRECT path. -/
theorem keepsBuffer_grantDirect (s : State) : KeepsBuffer s (grantDirect s) := by
  have sends : ∀ req, KeepsBuffer s (sendFirst req s) := fun req => .of_frame (frame_sendFirst req s)
  unfold grantDirect; split
  · exact .refl s
  · split
    · exact sends _
    · split
      · exact .refl s
      · split
        · unfold grantDirectPiece
          dsimp only
          split
          · exact ((sends _).trans (.of_frame (frame_putRead _ _))).trans (.of_frame (frame_offer _ _ _))
          · exact (sends _).trans (.of_frame (frame_putRead _ _))
        · exact .refl s

/-- R104: nor does a prefetch's. -/
theorem keepsBuffer_grantPrefetch (e : PfIx) (s : State) : KeepsBuffer s (grantPrefetch e s) := by
  unfold grantPrefetch; split
  · exact .refl s
  · split
    · exact (KeepsBuffer.of_frame (frame_sendFirst _ s)).trans (.of_frame (frame_putPf _ _ _))
    all_goals exact .refl s

theorem keepsBuffer_grantStep (s : State) : KeepsBuffer s (grantStep s) := by
  unfold grantStep; split
  · split
    · next c r _ =>
      refine (KeepsBuffer.of_frame (frame_withdraw c r s)).trans ?_
      unfold grantRequest; split
      · exact keepsBuffer_grantDrainHead _
      · exact keepsBuffer_grantRead _ _
      · exact keepsBuffer_grantDirect _
      · exact keepsBuffer_grantPrefetch _ _
      · exact .of_frame (frame_grantReissue _ _)
    · exact .refl s
  · exact .refl s

/-! ### The tracker's reports -/

theorem keepsBuffer_answerJoined (d : Lanes) (s : State) (t : Tag) : KeepsBuffer s (answerJoined d s t) := by
  unfold answerJoined; split
  · exact keepsBuffer_answerRead _ s
  · exact .refl s

theorem keepsBuffer_answerJoins (d : Lanes) (ts : List Tag) (s : State) : KeepsBuffer s (answerJoins d ts s) :=
  .foldl _ (keepsBuffer_answerJoined d) ts s

theorem keepsBuffer_prefetchDone (e : PfIx) (d : Lanes) (s : State) : KeepsBuffer s (prefetchDone e d s) := by
  unfold prefetchDone; split
  · exact .refl s
  · split
    · unfold prefetchArrived
      dsimp only
      have answered := fun x joins => ((KeepsBuffer.of_frame (frame_putPf e x s)).trans
        (.of_frame (frame_markMru e _))).trans (keepsBuffer_answerJoins d joins _)
      split
      · exact answered _ _
      · exact (answered _ _).trans (.of_frame (frame_trigger _ _ _))
    · exact (keepsBuffer_answerJoins _ _ s).trans (.of_frame (frame_emptyPf _ _))
    all_goals exact .refl s

theorem keepsBuffer_directReport (t : Tag) (k : Fin 8) (f : ReadRecord → Response) (o : PieceOutcome) (s : State) :
    KeepsBuffer s (directReport t k f o s) := by
  unfold directReport; split
  · exact .refl s
  · split
    · exact keepsBuffer_answerRead _ s
    · split
      · unfold directPieceEnds
        dsimp only
        split
        · exact keepsBuffer_answerRead _ s
        · exact .of_frame (frame_putRead _ s)
      · exact .refl s

theorem keepsBuffer_reportDone (req : MemRequest) (d : Lanes) (s : State) : KeepsBuffer s (reportDone req d s) := by
  unfold reportDone; split
  · exact keepsBuffer_pieceDone _ _ s
  · exact keepsBuffer_answerJoined d s _
  · exact keepsBuffer_directReport _ _ _ _ s
  · exact keepsBuffer_prefetchDone _ d s

theorem keepsBuffer_reportGiveUp (req : MemRequest) (cause : LossCause) (a : Nat) (s : State) :
    KeepsBuffer s (reportGiveUp req cause a s) := by
  unfold reportGiveUp; split
  · exact keepsBuffer_pieceLost _ _ _ _ s
  · unfold readLost; split
    · exact keepsBuffer_answerRead _ s
    · exact .refl s
  · exact keepsBuffer_directReport _ _ _ _ s
  · exact .of_frame (frame_prefetchLost _ s)

theorem keepsBuffer_settle (s0 s : State) : KeepsBuffer s (settle s0 s) :=
  (KeepsBuffer.of_frame (frame_quietTest s)).trans (keepsBuffer_finishEvent s0 _)

theorem keepsBuffer_giveUp (m : MemTag) (after : TrackerEntry) (req : MemRequest) (cause : LossCause) (a : Nat)
    (s : State) : KeepsBuffer s (giveUp m after req cause a s) :=
  ((keepsBuffer_reportGiveUp req cause a s).trans (.of_frame (frame_putEntry m after _))).trans
    (keepsBuffer_settle s _)

theorem keepsBuffer_absorb (m : MemTag) (s : State) : KeepsBuffer s (absorb m s) := .of_frame (frame_absorb m s)

theorem keepsBuffer_stray (m : MemTag) (s : State) : KeepsBuffer s (stray m s) := .of_frame (frame_stray m s)

theorem keepsBuffer_takeDone (m : MemTag) (d : Lanes) (s : State) : KeepsBuffer s (takeDone m d s) := by
  unfold takeDone; split
  · exact ((keepsBuffer_reportDone _ d s).trans (.of_frame (frame_putEntry m _ _))).trans (keepsBuffer_settle s _)
  · exact keepsBuffer_absorb m s
  all_goals exact keepsBuffer_stray m s

theorem keepsBuffer_takeDefer (m : MemTag) (s : State) : KeepsBuffer s (takeDefer m s) := by
  unfold takeDefer; split
  · unfold deferIssued; split
    · exact keepsBuffer_giveUp _ _ _ _ _ s
    · exact .of_frame (frame_putEntry m _ s)
  · exact keepsBuffer_absorb m s
  all_goals exact keepsBuffer_stray m s

theorem keepsBuffer_takeFault (m : MemTag) (s : State) : KeepsBuffer s (takeFault m s) := by
  unfold takeFault; split
  · exact keepsBuffer_giveUp _ _ _ _ _ s
  · exact keepsBuffer_absorb m s
  all_goals exact keepsBuffer_stray m s

/-! ### Timers -/

theorem keepsBuffer_responseExpires (m : MemTag) (s : State) : KeepsBuffer s (responseExpires m s) := by
  unfold responseExpires; split
  · split
    · exact keepsBuffer_giveUp _ _ _ _ _ s
    · exact .refl s
  all_goals exact .refl s

theorem keepsBuffer_holdExpires (i : SlotIx) (s : State) : KeepsBuffer s (holdExpires i s) := by
  unfold holdExpires; split
  · split
    · split
      · exact (keepsBuffer_sealSlot i s).trans (keepsBuffer_drainTest _)
      · exact .refl s
    all_goals exact .refl s
  · exact .refl s

theorem keepsBuffer_entryExpires (m : MemTag) (s : State) : KeepsBuffer s (entryExpires m s) := by
  unfold entryExpires; split
  · exact keepsBuffer_responseExpires m s
  · exact .of_frame (frame_backoffExpires m s)
  · exact .of_frame (frame_reclaimExpires m s)
  all_goals exact .refl s

theorem keepsBuffer_tick (s : State) : KeepsBuffer s (tick s) :=
  (keepsBuffer_countTick s).trans
    ((KeepsBuffer.foldl _ (fun u i => keepsBuffer_holdExpires i u) _ _).trans
      (.foldl _ (fun u m => keepsBuffer_entryExpires m u) _ _))

/-! ### Quiesce start and resets -/

theorem keepsBuffer_quiesceStart (s : State) : KeepsBuffer s (quiesceStart s) :=
  (((keepsBuffer_sealAll s).trans (.of_frame (frame_invalidate _))).trans (.of_frame (frame_setQuiesce _ _))).trans
    (.of_frame (frame_quietTest _))

/-- R44, R63: the forced reset empties every slot and both lists, and only then ends its event. -/
theorem keepsBuffer_takeDpResetForce (s : State) : KeepsBuffer s (takeDpResetForce s) := fun _ => by
  have cleared : ∀ u, BufferWhole (forceUnits (discardSlots u)) := fun u =>
    bufferWhole_of_empty (discardSlots_empty u) rfl rfl
  have rest : ∀ u, KeepsBuffer u (forceQuiesce (forceTracker (emptyReady u))) := fun u =>
    ((KeepsBuffer.of_frame (frame_setArb u _)).trans (.of_frame (frame_setTrk _ _))).trans
      (.of_frame (frame_forceQuiesce _))
  exact keepsBuffer_finishEvent s _ (rest _ (cleared _))

theorem bufferWhole_powerOn (held : Bool) (straps : BitVec 2) (drnReq : Bool) (s : State) :
    BufferWhole (powerOn held straps drnReq s) := by
  have reset : BufferWhole (resetHeld s) :=
    bufferWhole_of_empty (fun i => Vector.getElem_replicate (n := 16) (a := (none : Option Slot)) i.isLt) rfl rfl
  have ended : BufferWhole { resetHeld s with port := { (resetHeld s).port with straps := straps }, inReset := false } :=
    reset
  unfold powerOn; split
  · exact reset
  · unfold resetEnds
    dsimp only
    split
    · exact keepsBuffer_quiesceStart _ ((KeepsBuffer.of_frame (frame_setQuiesce _ _)) ended)
    · exact ended

/-! ### The management port and the drain line -/

theorem keepsBuffer_takeCommit (s : State) : KeepsBuffer s (takeCommit s) := by
  unfold takeCommit; split
  · exact .of_frame (frame_setResult _ s)
  · split
    · unfold startCommit
      dsimp only
      have pending := (KeepsBuffer.of_frame (frame_setQuiesce s { s.quiesce with commitPending := true })).trans
        (.of_frame (frame_setResult .pending _))
      split
      · exact (pending.trans (keepsBuffer_quiesceStart _)).trans (keepsBuffer_finishEvent s _)
      · exact pending
      · exact pending.trans (.of_frame (frame_applyCommit _))
    · exact .of_frame (frame_setResult _ s)

theorem keepsBuffer_runCommand (code : Byte) (s : State) : KeepsBuffer s (runCommand code s) := by
  unfold runCommand; split
  · exact keepsBuffer_takeCommit s
  · exact .of_frame (frame_takeDpReset s)
  · exact keepsBuffer_takeDpResetForce s
  · exact .of_frame (frame_takeLogPop s)
  · exact .of_frame (frame_takeLogClearOvf s)
  · exact .of_frame (frame_takeProtoClear s)
  · exact .of_frame (frame_setResult _ s)

theorem keepsBuffer_writeReg (i v : Byte) (s : State) : KeepsBuffer s (writeReg i v s).2 := by
  have range : ∀ lo hi (x : State → Thresholds),
      KeepsBuffer s (takeRange lo hi v (fun t => t.setCfg (x t)) s).2 := by
    intro lo hi x
    unfold takeRange; split
    · exact .of_frame (frame_setCfg s _)
    · exact .refl s
  unfold writeReg; split
  · exact .of_frame (frame_takeStaged i v s)
  · split
    · exact range _ _ _
    · exact range _ _ _
    · exact range _ _ _
    · exact range _ _ _
    · exact .of_frame (frame_setPort s _)
    · exact .of_frame (frame_takeTimeoutHigh v s)
    · exact .of_frame (frame_setWin s _)
    · exact keepsBuffer_runCommand v s
    · exact .of_frame (frame_setIrq s _)
    · exact .of_frame (frame_setIrq s _)
    · exact .refl s

theorem keepsBuffer_portWrite (follows : Bool) (i v : Byte) (s : State) : KeepsBuffer s (portWrite follows i v s) := by
  have data : ∀ u, KeepsBuffer u (dataByte v u) := by
    intro u
    unfold dataByte; split
    · unfold takeByte
      dsimp only
      split
      · exact (keepsBuffer_writeReg _ v u).trans (.of_frame (frame_ackByte _))
      · exact (keepsBuffer_writeReg _ v u).trans (.of_frame (frame_nackByte _))
    all_goals exact .of_frame (frame_noAck u)
  unfold portWrite; split
  · exact data s
  · exact (KeepsBuffer.of_frame (frame_beginWrite i s)).trans (data _)

theorem keepsBuffer_drainRises (s : State) : KeepsBuffer s (drainRises s) := by
  have held : KeepsBuffer s (s.setQuiesce { s.quiesce with drainHeld := true }) := .of_frame (frame_setQuiesce s _)
  unfold drainRises
  dsimp only
  split
  · exact (held.trans (keepsBuffer_quiesceStart _)).trans (keepsBuffer_finishEvent s _)
  all_goals exact held

theorem keepsBuffer_drainFalls (s : State) : KeepsBuffer s (drainFalls s) := by
  have clear : KeepsBuffer s (s.setQuiesce { s.quiesce with drainHeld := false }) := .of_frame (frame_setQuiesce s _)
  have ends := (clear.trans (.of_frame (frame_returnToRun _))).trans (keepsBuffer_finishEvent s _)
  unfold drainFalls
  dsimp only
  split
  · exact clear
  · split
    · exact clear
    · exact ends
  · exact ends

/-! ### Commands and steps -/

theorem event_keepsBuffer {s t : State} {f : State → State} (hf : ∀ u, KeepsBuffer u (f u))
    (he : event s f = .next t) : KeepsBuffer s t := by
  have idle : KeepsBuffer s (s.setWires Wires.idle) := .of_frame (frame_setWires s _)
  unfold event at he
  dsimp only at he
  split at he <;> obtain rfl := Host.Outcome.next.inj he
  · exact idle
  · exact idle.trans (hf _)

theorem keepsBuffer_setReady (level : Bool) (s : State) : KeepsBuffer s (setReady level s) :=
  (KeepsBuffer.of_frame (frame_setWires s Wires.idle)).trans (.of_frame (frame_setArb _ _))

/-- Every command keeps the age list and the drain queue whole. -/
theorem exec_keepsBuffer {c : Instr} {s t : State} (h : exec c s = .next t) : KeepsBuffer s t := by
  cases c with
  | requestPresented msg => exact event_keepsBuffer (keepsBuffer_present msg) h
  | responseSent => exact event_keepsBuffer (fun u => .of_frame (frame_sendResponse u)) h
  | holdTimerExpiry i => exact event_keepsBuffer (keepsBuffer_holdExpires i) h
  | mreqReadyRise => exact Host.Outcome.next.inj h ▸ keepsBuffer_setReady true s
  | mreqReadyFall => exact Host.Outcome.next.inj h ▸ keepsBuffer_setReady false s
  | grant => exact event_keepsBuffer keepsBuffer_grantStep h
  | done m d => exact event_keepsBuffer (keepsBuffer_takeDone m d) h
  | defer m => exact event_keepsBuffer (keepsBuffer_takeDefer m) h
  | fault m => exact event_keepsBuffer (keepsBuffer_takeFault m) h
  | badResp m => exact event_keepsBuffer (fun u => .of_frame (frame_badResponse m u)) h
  | responseTimerExpiry m => exact event_keepsBuffer (keepsBuffer_responseExpires m) h
  | backoffTimerExpiry m => exact event_keepsBuffer (fun u => .of_frame (frame_backoffExpires m u)) h
  | reclaimTimerExpiry m => exact event_keepsBuffer (fun u => .of_frame (frame_reclaimExpires m u)) h
  | drnReqRise => exact event_keepsBuffer keepsBuffer_drainRises h
  | drnReqFall => exact event_keepsBuffer keepsBuffer_drainFalls h
  | commit f => exact event_keepsBuffer (keepsBuffer_portWrite f _ _) h
  | dpReset f => exact event_keepsBuffer (keepsBuffer_portWrite f _ _) h
  | dpResetForce f => exact event_keepsBuffer (keepsBuffer_portWrite f _ _) h
  | logPop f => exact event_keepsBuffer (keepsBuffer_portWrite f _ _) h
  | logClearOvf f => exact event_keepsBuffer (keepsBuffer_portWrite f _ _) h
  | protoClear f => exact event_keepsBuffer (keepsBuffer_portWrite f _ _) h
  | unknownCommand code f => exact event_keepsBuffer (keepsBuffer_portWrite f _ code) h
  | interruptStatusWrite v f => exact event_keepsBuffer (keepsBuffer_portWrite f _ v) h
  | interruptMaskWrite v f => exact event_keepsBuffer (keepsBuffer_portWrite f _ v) h
  | responseTimeoutLowWrite v f => exact event_keepsBuffer (keepsBuffer_portWrite f _ v) h
  | responseTimeoutHighWrite v f => exact event_keepsBuffer (keepsBuffer_portWrite f _ v) h
  | stagedTableWrite i v f => exact event_keepsBuffer (keepsBuffer_portWrite f i v) h
  | registerWrite i v f => exact event_keepsBuffer (keepsBuffer_portWrite f i v) h
  | indexPointerWrite a i => exact event_keepsBuffer (fun u => .of_frame (frame_pointerWrite a i u)) h
  | logHeadRead a more => exact event_keepsBuffer (fun u => .of_frame (frame_portRead a more u)) h
  | powerOnReset held straps d =>
    exact Host.Outcome.next.inj h ▸ fun _ => bufferWhole_powerOn held straps d s
  | ageCountTick => exact event_keepsBuffer keepsBuffer_tick h
  | readTransfer a more => exact event_keepsBuffer (fun u => .of_frame (frame_portRead a more u)) h

/-- Settles O58: each command's event keeps the two lists whole (`exec_keepsBuffer`), and a step is the event of the
front command, or idles. -/
theorem stepKeepsBufferWhole : Obligations.StepKeepsBufferWhole := by
  intro s t h hs
  unfold step at hs
  split at hs
  · exact Host.Outcome.next.inj hs ▸ h
  · next c rest _ => exact (KeepsBuffer.of_frame (frame_setPending s rest)).trans (exec_keepsBuffer hs) h

end Sys2Proof.Machine
end

section
/-! PROOFS. The expiries of the timers, due and not due (O20). -/

namespace Sys2Proof.Machine

set_option Elab.async false

theorem holdDue_iff (s : State) (i : SlotIx) :
    holdDue s i = true ↔ ∃ x n, slotAt s i = some x ∧ x.phase = .filling (some n) ∧ n ≤ 1 := by
  unfold holdDue
  cases hx : slotAt s i with
  | none => simp
  | some x =>
    cases hp : x.phase with
    | filling hold => cases hold <;> simp [hp, expiring]
    | sealed => simp [hp]
    | draining ps => simp [hp]

/-- R119: no response timer expires before its last tick, and none where none runs. -/
theorem responseExpires_early {s : State} {m : MemTag} (h : ∀ req a n, entryAt s m = .issued req a n → 1 < n) :
    responseExpires m s = s := by
  unfold responseExpires; split
  · next req a n he => simp [(expiring_eq_false n).2 (h req a n he)]
  all_goals rfl

/-- R123: the same for the backoff timer. -/
theorem backoffExpires_early {s : State} {m : MemTag}
    (h : ∀ req a n, entryAt s m = .backoffWaiting req a n → 1 < n) : backoffExpires m s = s := by
  unfold backoffExpires; split
  · next req a n he => simp [(expiring_eq_false n).2 (h req a n he)]
  all_goals rfl

/-- R130: the same for the reclaim timer. -/
theorem reclaimExpires_early {s : State} {m : MemTag} (h : ∀ n, entryAt s m = .late n → 1 < n) :
    reclaimExpires m s = s := by
  unfold reclaimExpires; split
  · next n he => simp [(expiring_eq_false n).2 (h n he)]
  all_goals rfl

/-- Outside reset an event acts on the state with the wires idle. -/
theorem event_outsideReset {s : State} (f : State → State) (h : s.inReset = false) :
    event s f = .next (f (s.setWires Wires.idle)) := by
  simp [event, h]

/-- Settles O20: each expiry outside reset (`event_outsideReset`) acts where its timer is due, and is without effect
elsewhere. -/
theorem timersExpireWhenDue : Obligations.TimersExpireWhenDue := by
  refine ⟨fun s i hr => ⟨fun x n hx hp hn => ?_, fun early => ?_⟩, fun s m hr =>
    ⟨fun req a n he hn hc => ?_, fun n he hn => ?_, fun early => ?_, fun early => ?_, fun early => ?_⟩⟩
  all_goals refine (event_outsideReset _ hr).trans (congrArg Host.Outcome.next ?_)
  · have filling : x.isFilling = true := by simp [Slot.isFilling, hp]
    rw [holdExpires_due (s := s.setWires Wires.idle) hx hp hn, sealSlot_filling (s := s.setWires Wires.idle) hx filling]
    rfl
  · refine holdExpires_early (s := s.setWires Wires.idle) (Bool.eq_false_iff.2 fun due => ?_)
    obtain ⟨x, n, hx, hp, hn⟩ := (holdDue_iff _ i).1 due
    exact absurd (early x n hx hp) (Nat.not_lt.2 hn)
  · rw [backoffExpires_due (s := s.setWires Wires.idle) he hn]
    cases origin : req.origin with
    | drain i k => rfl
    | demand t => rfl
    | direct t k => rfl
    | prefetch e => exact absurd origin (hc e)
  · rw [reclaimExpires_due (s := s.setWires Wires.idle) he hn]
    rfl
  · exact responseExpires_early (s := s.setWires Wires.idle) early
  · exact backoffExpires_early (s := s.setWires Wires.idle) early
  · exact reclaimExpires_early (s := s.setWires Wires.idle) early

end Sys2Proof.Machine
end

section
/-! PROOFS. The drain engine's test and the conditions of eligibility (O21, O22). -/

namespace Sys2Proof.Machine

set_option Elab.async false

/-! ### Eligibility (R47 to R50) -/

theorem atOrBefore_self_iff (e x : BitVec 8) : atOrBefore e x e = true ↔ (x - e).toNat = 0 := by
  simp [atOrBefore, epochOffset]

/-- R47: the fence hold, by the oldest fence outstanding. -/
theorem meetsFenceHold_iff (s : State) (x : Slot) :
    meetsFenceHold s x = true ↔ ∀ f rest, s.fence.list = f :: rest → (x.epoch - f.epoch).toNat = 0 := by
  unfold meetsFenceHold
  cases s.fence.list with
  | nil => simp
  | cons f rest =>
    refine (atOrBefore_self_iff f.epoch x.epoch).trans ⟨fun h g others e => ?_, fun h => h f rest rfl⟩
    obtain ⟨rfl, -⟩ := List.cons.inj e
    exact h

/-- R48: the same-line order. -/
theorem meetsLineOrder_iff (s : State) (i : SlotIx) (x : Slot) :
    meetsLineOrder s i x = true ↔ ∀ j ∈ s.buf.ages.takeWhile (· != i), holds s x.line j = false := by
  simp only [meetsLineOrder, List.all_eq_true, Bool.not_eq_true']

/-- R49: the SEQUENCE order. -/
theorem meetsSequenceOrder_iff (s : State) (i : SlotIx) (x : Slot) :
    meetsSequenceOrder s i x = true ↔
      (x.cls = .sequence → ∀ e ∈ s.drain.queue.takeWhile (·.slot != i), slotSequence s e.slot = false) := by
  simp only [meetsSequenceOrder, Bool.or_eq_true, bne_iff_ne, List.all_eq_true, Bool.not_eq_true', ne_eq,
    imp_iff_not_or]

/-- R50: the blocker list. -/
theorem meetsBlockers_iff (x : Slot) : meetsBlockers x = true ↔ x.blockers = [] := List.isEmpty_iff

/-- Settles O22: the four conditions, each by its own lemma. -/
theorem eligibilityConditions : Obligations.EligibilityConditions := by
  intro s i x hx
  simp only [eligible, hx, Bool.and_eq_true, beq_iff_eq, meetsFenceHold_iff, meetsLineOrder_iff,
    meetsSequenceOrder_iff, meetsBlockers_iff, and_assoc]

/-! ### The drain engine's test (R51, R52, R55) -/

theorem slotWaiting_iff (s : State) (i : SlotIx) :
    slotWaiting s i = true ↔
      ∃ x ps p, slotAt s i = some x ∧ x.phase = .draining ps ∧ p ∈ ps ∧ p.outcome = .waiting := by
  unfold slotWaiting
  cases hx : slotAt s i with
  | none => simp
  | some x => cases hp : x.phase <;> simp [hp]

theorem issuing_eq_none {s : State} : issuing s = none ↔ ∀ e ∈ s.drain.queue, ¬ slotWaiting s e.slot = true := by
  simp [issuing]

theorem firstEligible_eq_none {s : State} :
    firstEligible s = none ↔ ∀ e ∈ s.drain.queue, eligible s e.slot = false := by
  simp [firstEligible]

/-- R52: slots ahead in the queue that are not eligible are passed over. -/
theorem firstEligible_passes {s : State} {before after : List DrainEntry} {e : DrainEntry}
    (queue : s.drain.queue = before ++ e :: after) (passed : ∀ b ∈ before, eligible s b.slot = false)
    (he : eligible s e.slot = true) : firstEligible s = some e :=
  List.find?_eq_some_iff_append.2 ⟨he, before, after, queue, fun b hb => by simp [passed b hb]⟩

theorem drainTest_busy {s : State} (h : issuing s ≠ none) : drainTest s = s := by
  unfold drainTest
  split
  · rfl
  · next idle => exact absurd idle h

theorem drainTest_noneEligible {s : State} (h : firstEligible s = none) : drainTest s = s := by
  simp only [drainTest, h]
  split <;> rfl

theorem drainTest_begins {s : State} {e : DrainEntry} (idle : issuing s = none) (h : firstEligible s = some e) :
    drainTest s = beginSlot e.slot s := by
  simp only [drainTest, idle, h]

/-- R39, R52, R55: what beginning a slot comes to. -/
theorem beginSlot_of_some {s : State} {i : SlotIx} {x : Slot} (h : slotAt s i = some x) :
    beginSlot i s =
      { s with
        buf := { s.buf with slots := s.buf.slots.set i (some { x with phase := .draining (formPieces x.valid) }) }
        arb := { s.arb with drain := s.arb.drain ++ [.drainHead] } } := by
  simp only [beginSlot, h]
  rfl

/-- Settles O21: the test is idle while a slot issues (`drainTest_busy`) or none is eligible
(`drainTest_noneEligible`); else it begins the first eligible one (`firstEligible_passes`, `beginSlot_of_some`). -/
theorem drainTestBeginsOneSlot : Obligations.DrainTestBeginsOneSlot := by
  intro s waits hwaits
  have waiting : ∀ i, waits i ↔ slotWaiting s i = true := fun i => (hwaits i).trans (slotWaiting_iff s i).symm
  refine ⟨fun ⟨e, he, hw⟩ => drainTest_busy fun idle => ?_,
    fun noneEligible => drainTest_noneEligible (firstEligible_eq_none.2 noneEligible),
    fun before after e x idle queue passed he hx => ?_⟩
  · exact issuing_eq_none.1 idle e he ((waiting e.slot).1 hw)
  · have notIssuing : issuing s = none := issuing_eq_none.2 fun f hf => mt (waiting f.slot).2 (idle f hf)
    rw [drainTest_begins notIssuing (firstEligible_passes queue passed he), beginSlot_of_some hx]

end Sys2Proof.Machine
end

section
/-! PROOFS. The pieces of a valid mask (O23): the bits of a piece, what the scan forms at a granule, and what follows for the whole list. -/

namespace Sys2Proof.Machine

set_option Elab.async false

/-! ### The bits of flags, bursts and pieces -/

theorem granules_pos (n : BurstLen) : 0 < n.granules := by cases n <;> decide

theorem granules_le (n : BurstLen) : n.granules ≤ 8 := by cases n <;> decide

theorem getLsbD_granuleFlags (m : ByteMask) (g i : Nat) :
    (granuleFlags m g).getLsbD i = (decide (i < 8) && m.getLsbD (8 * g + i)) := by
  simp [granuleFlags, BitVec.getLsbD_extractLsb']

theorem covers_iff (whole part : ByteMask) :
    covers whole part = true ↔ ∀ k, part.getLsbD k = true → whole.getLsbD k = true := by
  simp only [covers, beq_iff_eq]
  constructor
  · intro h k hk
    have both : (whole &&& part).getLsbD k = true := by rw [h]; exact hk
    simp only [BitVec.getLsbD_and, Bool.and_eq_true] at both
    exact both.1
  · intro h
    refine BitVec.eq_of_getLsbD_eq fun k _ => ?_
    rw [BitVec.getLsbD_and]
    cases hk : part.getLsbD k with
    | false => simp
    | true => simp [h k hk]

/-- R54: the bytes of a burst are those of its granules. -/
theorem getLsbD_mask_burst {p : Piece} {n : BurstLen} (h : p.shape = .burst n) {k : Nat} (hk : k < 64) :
    p.mask.getLsbD k = true ↔ 8 * p.start.val ≤ k ∧ k < 8 * (p.start.val + n.granules) := by
  have size : 8 * n.granules ≤ 64 := Nat.mul_le_mul_left 8 (granules_le n)
  simp only [Piece.mask, h, getLsbD_runMask size, decide_eq_true_eq]
  omega

/-- R54: the bytes of a masked piece are the flagged ones of its granule. -/
theorem getLsbD_mask_masked {p : Piece} {flags : BitVec 8} (h : p.shape = .masked flags) {k : Nat} (hk : k < 64) :
    p.mask.getLsbD k = true ↔ 8 * p.start.val ≤ k ∧ flags.getLsbD (k - 8 * p.start.val) = true := by
  simp [Piece.mask, h, hk]

/-- R53: where a burst may start. -/
theorem burstFits_iff {m : ByteMask} {g : Nat} {n : BurstLen} :
    burstFits m g n = true ↔
      g % n.granules = 0 ∧ ∀ k, k < 64 → 8 * g ≤ k → k < 8 * (g + n.granules) → m.getLsbD k = true := by
  have size : 8 * n.granules ≤ 64 := Nat.mul_le_mul_left 8 (granules_le n)
  simp only [burstFits, Bool.and_eq_true, beq_iff_eq, covers_iff, getLsbD_runMask size, decide_eq_true_eq, and_imp,
    Nat.mul_add]

/-! ### The largest burst (R53) -/

theorem burstFits_one {m : ByteMask} {g : Nat} (full : granuleFlags m g = BitVec.allOnes 8) :
    burstFits m g .one = true := by
  refine burstFits_iff.2 ⟨Nat.mod_one g, fun k _ low high => ?_⟩
  have flag := getLsbD_granuleFlags m g (k - 8 * g)
  have inGranule : k - 8 * g < 8 := by simp only [BurstLen.granules] at high; omega
  rw [full, BitVec.getLsbD_allOnes] at flag
  simpa [inGranule, Nat.add_sub_cancel' low] using flag

theorem burstFits_burstAt {m : ByteMask} {g : Nat} (full : granuleFlags m g = BitVec.allOnes 8) :
    burstFits m g (burstAt m g) = true := by
  unfold burstAt
  split
  · assumption
  · split
    · assumption
    · split
      · assumption
      · exact burstFits_one full

/-- R53: no burst that fits is longer than the one taken. -/
theorem granules_le_burstAt {m : ByteMask} {g : Nat} {n : BurstLen} (fits : burstFits m g n = true) :
    n.granules ≤ (burstAt m g).granules := by
  cases n with
  | one => exact granules_pos _
  | two =>
    rw [burstAt, if_pos fits]
    split
    · decide
    · split <;> decide
  | four =>
    rw [burstAt, if_pos fits]
    split <;> decide
  | eight => rw [burstAt, if_pos fits]

/-! ### What the scan forms -/

/-- What R53 says of the shape of a piece of mask `m` at granule `g`. -/
def Shape.fits (m : ByteMask) (g : Nat) : Shape → Prop
  | .burst n => g % n.granules = 0 ∧ g + n.granules ≤ 8 ∧
      ∀ longer : BurstLen, n.granules < longer.granules → g % longer.granules = 0 →
        ∃ k, k < 8 * longer.granules ∧ m.getLsbD (8 * g + k) = false
  | .masked flags => flags ≠ 0 ∧ flags ≠ BitVec.allOnes 8

/-- Piece `p` of mask `m`, after which the scan goes on at granule `next`. -/
structure Formed (m : ByteMask) (p : Piece) (next : Nat) : Prop where
  advances : p.start.val < next
  waiting : p.outcome = .waiting
  shape : p.shape.fits m p.start.val
  bits : ∀ k, k < 64 → (p.mask.getLsbD k = true ↔ 8 * p.start.val ≤ k ∧ k < 8 * next ∧ m.getLsbD k = true)

/-- R53: a scan of mask `m` that reaches granule `g` and forms a list of pieces from there. -/
inductive Scan (m : ByteMask) : Nat → List Piece → Prop where
  | finish {g : Nat} : 8 ≤ g → Scan m g []
  | skip {g : Nat} {ps : List Piece} : granuleFlags m g = 0 → Scan m (g + 1) ps → Scan m g ps
  | form {p : Piece} {next : Nat} {ps : List Piece} : Formed m p next → Scan m next ps →
      Scan m p.start.val (p :: ps)

theorem formed_burst {m : ByteMask} {g : Fin 8} (full : granuleFlags m g = BitVec.allOnes 8) :
    Formed m { start := g, shape := .burst (burstAt m g), outcome := .waiting } (g.val + (burstAt m g).granules) := by
  obtain ⟨aligned, valid⟩ := burstFits_iff.1 (burstFits_burstAt full)
  refine ⟨Nat.lt_add_of_pos_right (granules_pos _), rfl, ⟨aligned, ?_, fun longer hl ha => ?_⟩, fun k hk => ?_⟩
  · have := g.isLt
    revert aligned
    cases burstAt m g <;> simp only [BurstLen.granules] <;> omega
  · by_contra all
    have fits : burstFits m g longer = true := by
      refine burstFits_iff.2 ⟨ha, fun k _ low high => ?_⟩
      by_contra invalid
      exact all ⟨k - 8 * g.val, by omega, by rw [Nat.add_sub_cancel' low]; simpa using invalid⟩
    exact absurd hl (Nat.not_lt.2 (granules_le_burstAt fits))
  · rw [getLsbD_mask_burst rfl hk]
    exact ⟨fun ⟨low, high⟩ => ⟨low, high, valid k hk low high⟩, fun ⟨low, high, _⟩ => ⟨low, high⟩⟩

theorem formed_masked {m : ByteMask} {g : Fin 8} (notEmpty : granuleFlags m g ≠ 0)
    (notAll : granuleFlags m g ≠ BitVec.allOnes 8) :
    Formed m { start := g, shape := .masked (granuleFlags m g), outcome := .waiting } (g.val + 1) := by
  refine ⟨Nat.lt_succ_self _, rfl, ⟨notEmpty, notAll⟩, fun k hk => ?_⟩
  rw [getLsbD_mask_masked rfl hk, getLsbD_granuleFlags, Bool.and_eq_true, decide_eq_true_eq]
  refine and_congr_right fun low => ?_
  rw [Nat.add_sub_cancel' low]
  exact and_congr_left fun _ => by dsimp only at low ⊢; omega

/-- With fuel for the granules left, the model's scan is one. -/
theorem scan_scanPieces {m : ByteMask} {fuel g : Nat} (h : 8 ≤ g + fuel) : Scan m g (scanPieces fuel g m) := by
  induction fuel generalizing g with
  | zero => exact .finish h
  | succ fuel ih =>
    rw [scanPieces]
    split
    · next inLine =>
      dsimp only
      split
      · next empty => exact .skip empty (ih (by omega))
      · next notEmpty =>
        split
        · next full =>
          have := granules_pos (burstAt m g)
          exact .form (formed_burst (g := ⟨g, inLine⟩) full) (ih (by dsimp only; omega))
        · next notFull =>
          exact .form (formed_masked (g := ⟨g, inLine⟩) notEmpty notFull) (ih (by dsimp only; omega))
    · next past => exact .finish (Nat.not_lt.1 past)

/-! ### What follows for the list of pieces -/

theorem Scan.formed {m : ByteMask} {g : Nat} {ps : List Piece} (h : Scan m g ps) :
    ∀ p ∈ ps, g ≤ p.start.val ∧ ∃ next, Formed m p next := by
  induction h with
  | finish => simp
  | skip _ _ ih => exact fun p hp => ⟨Nat.le_of_succ_le (ih p hp).1, (ih p hp).2⟩
  | form formed _ ih =>
    intro q hq
    obtain rfl | hq := List.mem_cons.1 hq
    · exact ⟨Nat.le_refl _, _, formed⟩
    · exact ⟨Nat.le_trans (Nat.le_of_lt formed.advances) (ih q hq).1, (ih q hq).2⟩

/-- The pieces cover the valid bytes from the granule on where the scan stands, and no others. -/
theorem Scan.covers {m : ByteMask} {g : Nat} {ps : List Piece} (h : Scan m g ps) {k : Nat} (hk : k < 64) :
    (∃ p ∈ ps, p.mask.getLsbD k = true) ↔ 8 * g ≤ k ∧ m.getLsbD k = true := by
  induction h with
  | finish past => simp; omega
  | @skip g ps empty _ ih =>
    refine ih.trans ⟨fun ⟨low, valid⟩ => ⟨by omega, valid⟩, fun ⟨low, valid⟩ => ⟨?_, valid⟩⟩
    have flag := getLsbD_granuleFlags m g (k - 8 * g)
    rw [empty, Nat.add_sub_cancel' low, valid] at flag
    simp at flag
    omega
  | @form p next ps formed _ ih =>
    have := formed.advances
    rw [List.exists_mem_cons_iff, formed.bits k hk, ih]
    constructor
    · rintro (⟨low, -, valid⟩ | ⟨low, valid⟩)
      · exact ⟨low, valid⟩
      · exact ⟨by omega, valid⟩
    · rintro ⟨low, valid⟩
      obtain high | low' := Nat.lt_or_ge k (8 * next)
      · exact .inl ⟨low, high, valid⟩
      · exact .inr ⟨low', valid⟩

theorem Scan.pairwise {m : ByteMask} {g : Nat} {ps : List Piece} (h : Scan m g ps) :
    ps.Pairwise fun p q => p.mask &&& q.mask = 0 ∧ p.start < q.start := by
  induction h with
  | finish => exact .nil
  | skip _ _ ih => exact ih
  | @form p next ps formed rest ih =>
    refine .cons (fun q hq => ?_) ih
    obtain ⟨after, qNext, qFormed⟩ := rest.formed q hq
    refine ⟨BitVec.eq_of_getLsbD_eq fun k hk => ?_, Fin.lt_def.2 (Nat.lt_of_lt_of_le formed.advances after)⟩
    rw [BitVec.getLsbD_and, BitVec.ofNat_eq_ofNat, BitVec.getLsbD_zero, Bool.and_eq_false_iff]
    by_contra both
    simp only [not_or, Bool.not_eq_false] at both
    obtain ⟨-, high, -⟩ := (formed.bits k hk).1 both.1
    obtain ⟨low, -⟩ := (qFormed.bits k hk).1 both.2
    omega

theorem getLsbD_foldl_mask (ps : List Piece) (a : ByteMask) (k : Nat) :
    (ps.foldl (fun a p => a ||| p.mask) a).getLsbD k = true ↔
      a.getLsbD k = true ∨ ∃ p ∈ ps, p.mask.getLsbD k = true := by
  induction ps generalizing a with
  | nil => simp
  | cons p ps ih =>
    simp only [List.foldl_cons, ih, BitVec.getLsbD_or, Bool.or_eq_true, List.exists_mem_cons_iff, or_assoc]

/-- Settles O23: the scan of the eight granules (`scan_scanPieces`) covers the mask, forms its pieces apart and in order,
and each as R53 says (`Scan.covers`, `Scan.pairwise`, `Scan.formed`). -/
theorem piecesCoverMask : Obligations.PiecesCoverMask := by
  refine ⟨fun m => ?_, ⟨rfl, rfl, rfl, rfl⟩, fun p k hk => ?_⟩
  · have scan : Scan m 0 (formPieces m) := scan_scanPieces (Nat.le_refl 8)
    refine ⟨BitVec.eq_of_getLsbD_eq_iff.2 fun k hk => ?_, scan.pairwise, fun p hp => ?_⟩
    · rw [Bool.eq_iff_iff, getLsbD_foldl_mask, scan.covers hk]
      simp
    · obtain ⟨-, next, formed⟩ := scan.formed p hp
      refine ⟨formed.waiting, ?_⟩
      have shape := formed.shape
      cases hs : p.shape <;> simpa only [hs, Shape.fits] using shape
  · cases hs : p.shape with
    | burst n => exact getLsbD_mask_burst hs hk
    | masked flags => exact getLsbD_mask_masked hs hk

end Sys2Proof.Machine
end

section
/-! PROOFS. A tick moves the counts and then lets the timers expire (O24). -/

namespace Sys2Proof.Machine

set_option Elab.async false

/-- The indices below `n` that have a property, ascending, each once. -/
theorem filter_finRange_sorted {n : Nat} (p : Fin n → Bool) : ((List.finRange n).filter p).Pairwise (· < ·) :=
  (List.pairwise_lt_finRange n).filter p

/-- A timer with more than one tick left falls by one; one in its last tick is left to its expiry. -/
theorem countDown_eq (n : Nat) : countDown n = if 1 < n then n - 1 else n := by
  by_cases h : 1 < n
  · simp [countDown, expiring, h]
  · simp [countDown, expiring, h, Nat.not_lt.1 h]

theorem due_iff (x : TrackerEntry) :
    x.due = true ↔ ∃ n, n ≤ 1 ∧
      ((∃ req a, x = .issued req a n) ∨ (∃ req a, x = .backoffWaiting req a n) ∨ x = .late n) := by
  cases x <;> simp [TrackerEntry.due, expiring]

/-! ### What the counts come to -/

theorem slotAt_countTick (s : State) (i : SlotIx) : slotAt (countTick s) i = (slotAt s i).map Slot.tick := by
  simp [slotAt, countTick]

theorem entryAt_countTick (s : State) (m : MemTag) : entryAt (countTick s) m = (entryAt s m).tick := by
  simp [entryAt, countTick]

/-- R46, R26, R119, R123, R130: the counts stand in the slots, the drain queue and the tracker's entries. -/
theorem countTick_fields (s : State) (w : Wires) :
    countTick (s.setWires w) =
      { s with
        buf := { s.buf with slots := (countTick (s.setWires w)).buf.slots }
        drain := (countTick (s.setWires w)).drain
        trk := { s.trk with entries := (countTick (s.setWires w)).trk.entries }
        wires := w } := by
  simp only [countTick, State.setDrain, State.setBuf, State.setTrk, State.setWires]

theorem slot_tick_running {x : Slot} {n : Nat} (hp : x.phase = .filling (some n)) (hn : 1 < n) :
    x.tick = { x with phase := .filling (some (n - 1)) } := by
  simp [Slot.tick, hp, countDown_eq, hn]

/-- A slot without a hold timer that has more than one tick left is as it was. -/
theorem slot_tick_other {x : Slot} (h : ∀ n, x.phase = .filling (some n) → n ≤ 1) : x.tick = x := by
  unfold Slot.tick
  split
  · next n hp =>
    rw [countDown_eq, if_neg (Nat.not_lt.2 (h n hp)), ← hp]
  all_goals rfl

/-- R119, R123, R130: the expiry of an entry's timer is that of its expiry command. -/
theorem entryExpires_of_issued {s : State} {m : MemTag} {req : MemRequest} {a n : Nat}
    (h : entryAt s m = .issued req a n) : entryExpires m s = responseExpires m s := by
  simp only [entryExpires, h]

theorem entryExpires_of_backoffWaiting {s : State} {m : MemTag} {req : MemRequest} {a n : Nat}
    (h : entryAt s m = .backoffWaiting req a n) : entryExpires m s = backoffExpires m s := by
  simp only [entryExpires, h]

theorem entryExpires_of_late {s : State} {m : MemTag} {n : Nat} (h : entryAt s m = .late n) :
    entryExpires m s = reclaimExpires m s := by
  simp only [entryExpires, h]

/-- R46, log entry 5: the counts move, then every timer that was due expires. -/
theorem exec_ageCountTick {s : State} (hr : s.inReset = false) :
    exec .ageCountTick s = .next
      ((allMemTags.filter fun m => (entryAt (s.setWires Wires.idle) m).due).foldl (fun u m => entryExpires m u)
        ((allSlots.filter (holdDue (s.setWires Wires.idle))).foldl (fun u i => holdExpires i u)
          (countTick (s.setWires Wires.idle)))) := by
  refine (event_outsideReset tick hr).trans ?_
  rw [tick, expireAll]

/-- Settles O24: `tick` counts first (`slotAt_countTick`, `entryAt_countTick`) and then lets the timers that were due
(`holdDue_iff`, `due_iff`) expire, as their commands do. -/
theorem tickCounts : Obligations.TickCounts := by
  refine ⟨fun s hr => ⟨countTick (s.setWires Wires.idle), allSlots.filter (holdDue (s.setWires Wires.idle)),
      allMemTags.filter fun m => (entryAt (s.setWires Wires.idle) m).due, exec_ageCountTick hr,
      filter_finRange_sorted _, fun i => ?_, filter_finRange_sorted _, fun m => ?_, countTick_fields s Wires.idle, rfl,
      fun i x n hx hp hn => ?_, fun i early => ?_, fun m => ?_⟩,
    fun s i hr => event_outsideReset _ hr, fun s m c hr hc => ?_⟩
  · rw [List.mem_filter, holdDue_iff]
    exact and_iff_right (List.mem_finRange i)
  · rw [List.mem_filter, due_iff]
    exact and_iff_right (List.mem_finRange m)
  · rw [slotAt_countTick]
    exact congrArg (Option.map Slot.tick) hx |>.trans (congrArg some (slot_tick_running hp hn))
  · rw [slotAt_countTick]
    change (slotAt s i).map Slot.tick = slotAt s i
    cases hx : slotAt s i with
    | none => rfl
    | some x => exact congrArg some (slot_tick_other fun n hp => early x n hx hp)
  · rw [entryAt_countTick]
    change (entryAt s m).tick = _
    cases entryAt s m <;> simp only [TrackerEntry.tick, countDown_eq]
  · obtain ⟨⟨req, a, n, he⟩, rfl⟩ | ⟨⟨req, a, n, he⟩, rfl⟩ | ⟨⟨n, he⟩, rfl⟩ := hc
    · rw [entryExpires_of_issued (s := s.setWires Wires.idle) he]
      exact event_outsideReset (responseExpires m) hr
    · rw [entryExpires_of_backoffWaiting (s := s.setWires Wires.idle) he]
      exact event_outsideReset (backoffExpires m) hr
    · rw [entryExpires_of_late (s := s.setWires Wires.idle) he]
      exact event_outsideReset (reclaimExpires m) hr

end Sys2Proof.Machine
end

section
/-! PROOFS. The end of a slot neither reads nor changes the tracker, so an entry may be freed before it as well as after it. -/

namespace Sys2Proof.Machine

set_option Elab.async false

/-- An operation that neither reads nor changes the tracker. -/
def IgnoresTracker (f : State → State) : Prop := ∀ (s : State) (x : Tracker), f (s.setTrk x) = (f s).setTrk x

theorem IgnoresTracker.comp {f g : State → State} (hf : IgnoresTracker f) (hg : IgnoresTracker g) :
    IgnoresTracker fun s => f (g s) := fun s x => by
  simp only [hg s x, hf (g s) x]

theorem IgnoresTracker.foldl {α : Type} {f : State → α → State} (hf : ∀ a, IgnoresTracker fun s => f s a)
    (l : List α) : IgnoresTracker fun s => l.foldl f s := by
  induction l with
  | nil => exact fun _ _ => rfl
  | cons a l ih => exact ih.comp (hf a)

theorem ignoresTracker_putRead (r : ReadRecord) : IgnoresTracker (putRead r) := fun s x => by
  have same : readOf (s.setTrk x) r.tag = readOf s r.tag := rfl
  simp only [putRead, same]
  split <;> rfl

theorem ignoresTracker_offer (c : RequestClass) (r : OfferedRequest) : IgnoresTracker (offer c r) := fun _ _ => by
  cases c <;> rfl

theorem ignoresTracker_answerRead (a : Response) : IgnoresTracker (answerRead a) := fun _ _ => rfl

theorem ignoresTracker_trigger (l : Line) (w : Fin 8) : IgnoresTracker (trigger l w) := fun s x => by
  have allowed : triggerAllowed l (s.setTrk x) = triggerAllowed l s := rfl
  have found : victim (s.setTrk x) = victim s := rfl
  simp only [trigger, allowed, found]
  split
  · split <;> rfl
  · rfl

theorem ignoresTracker_readTrigger (r : ReadRecord) : IgnoresTracker (readTrigger r) := fun s x => by
  unfold readTrigger
  split
  · split
    · exact ignoresTracker_trigger _ _ s x
    · rfl
  · rfl

theorem ignoresTracker_demandRead (r : ReadRecord) : IgnoresTracker (demandRead r) :=
  (ignoresTracker_offer _ _).comp (ignoresTracker_putRead _)

theorem ignoresTracker_joinRead (r : ReadRecord) (e : PfIx) (y : PfEntry) (st : PfState) :
    IgnoresTracker (joinRead r e y st) :=
  (ignoresTracker_putRead _).comp (g := putPf e (some { y with state := st })) fun _ _ => rfl

theorem ignoresTracker_serveRead (r : ReadRecord) (e : PfIx) (d : Lanes) : IgnoresTracker (serveRead r e d) :=
  (ignoresTracker_readTrigger r).comp (g := fun s => markMru e (answerRead (readData r d) s)) fun _ _ => rfl

theorem ignoresTracker_routeRead (r : ReadRecord) : IgnoresTracker (routeRead r) := fun s x => by
  have entry : pfOfLine (s.setTrk x) r.span.line = pfOfLine s r.span.line := rfl
  have held (e : PfIx) : pfAt (s.setTrk x) e = pfAt s e := rfl
  simp only [routeRead, entry, held]
  split
  · split
    · exact ignoresTracker_demandRead r s x
    · split
      · exact ignoresTracker_demandRead r s x
      · split
        · exact ignoresTracker_serveRead r _ _ s x
        · exact ignoresTracker_joinRead r _ _ _ s x
        · exact ignoresTracker_joinRead r _ _ _ s x
        · exact ignoresTracker_demandRead r s x
  · exact ignoresTracker_demandRead r s x

theorem ignoresTracker_releaseRead (i : SlotIx) (t : Tag) : IgnoresTracker (releaseRead i t) := fun s x => by
  have same : readOf (s.setTrk x) t = readOf s t := rfl
  simp only [releaseRead, same]
  split
  · rfl
  · split
    · split
      · split
        · exact ignoresTracker_routeRead _ s x
        · exact ignoresTracker_putRead _ s x
      · rfl
    all_goals rfl

theorem ignoresTracker_releaseReads (i : SlotIx) : IgnoresTracker (releaseReads i) := fun s x =>
  IgnoresTracker.foldl (f := fun u (t : Tag) => releaseRead i t u) (ignoresTracker_releaseRead i)
    (s.rd.reads.map ReadRecord.tag) s x

theorem ignoresTracker_fenceTestFrom (l : List FenceRecord) : IgnoresTracker (fenceTestFrom l) := by
  induction l with
  | nil => exact fun _ _ => rfl
  | cons f rest ih =>
    intro s x
    have blocked : fenceBlocked (s.setTrk x) f = fenceBlocked s f := rfl
    simp only [fenceTestFrom, blocked]
    split
    · rfl
    · exact ih (completeFence f rest s) x

theorem ignoresTracker_fenceTest : IgnoresTracker fenceTest := fun s x =>
  ignoresTracker_fenceTestFrom s.fence.list s x

theorem ignoresTracker_directTest : IgnoresTracker directTest := fun s x => by
  have live : noSlotLive (s.setTrk x) = noSlotLive s := rfl
  simp only [directTest, live, State.setTrk_rd]
  split
  · split
    · exact ((ignoresTracker_offer _ _).comp (ignoresTracker_putRead _)) s x
    · rfl
  · rfl

theorem ignoresTracker_answerWaiters (y : Slot) : IgnoresTracker (answerWaiters y) :=
  .foldl (f := fun u t => pushResponse (waiterAnswer y.lost t) u) (fun _ _ _ => rfl) y.waiters

theorem ignoresTracker_completeSlot (i : SlotIx) (y : Slot) : IgnoresTracker (completeSlot i y) :=
  ignoresTracker_directTest.comp <| ignoresTracker_fenceTest.comp <| (ignoresTracker_releaseReads i).comp <|
    IgnoresTracker.comp (f := emptySlot i) (fun _ _ => rfl) (ignoresTracker_answerWaiters y)

theorem putEntry_completeSlot (m : MemTag) (e : TrackerEntry) (i : SlotIx) (y : Slot) (s : State) :
    putEntry m e (completeSlot i y s) = completeSlot i y (putEntry m e s) := by
  have trk : (completeSlot i y s).trk = s.trk := (frame_completeSlot i y s).same .trk
  rw [putEntry, trk]
  exact (ignoresTracker_completeSlot i y s _).symm

/-- R41: waiters answered one after the other. -/
theorem answerAll_eq (lost : Bool) (ts : List Tag) (s : State) :
    ts.foldl (fun u t => pushResponse (waiterAnswer lost t) u) s =
      s.setAcc { s.acc with
        tags := ts.foldl (fun v (t : Tag) => v.set t .responding) s.acc.tags
        queue := s.acc.queue ++ ts.map (waiterAnswer lost) } := by
  induction ts generalizing s with
  | nil => simp [State.setAcc]
  | cons t ts ih =>
    rw [List.foldl_cons, ih]
    simp [pushResponse, waiterAnswer_tag, setTag, State.setAcc]

/-- R40, steps 1 and 2: the waiters are answered, and the slot is EMPTY. -/
theorem emptySlot_answerWaiters_eq (i : SlotIx) (y : Slot) (s : State) :
    emptySlot i (answerWaiters y s) = afterEmptying i y s := by
  rw [answerWaiters, answerAll_eq]
  rfl

theorem completeSlot_eq (i : SlotIx) (y : Slot) (s : State) : completeSlot i y s = afterCompletion i y s := by
  rw [completeSlot, emptySlot_answerWaiters_eq, afterCompletion]

end Sys2Proof.Machine
end

section
/-! PROOFS. A drain piece ends: DONE (O38), or given up and lost (O37). -/

namespace Sys2Proof.Machine

set_option Elab.async false

/-! ### The report's end -/

theorem quietCondition_live {s : State} {i : SlotIx} {x : Slot} (hx : slotAt s i = some x) :
    quietCondition s = false := by
  have live : noSlotLive s = false := by
    rw [← Bool.not_eq_true, noSlotLive_iff]
    exact fun empty => by simp [empty i] at hx
  simp [quietCondition, live]

/-- The wires of the state an event began in do not matter to its end. -/
theorem finishEvent_setWires (s0 s : State) (w : Wires) : finishEvent (s0.setWires w) s = finishEvent s0 s := rfl

theorem resolved_iff (p : Piece) : p.resolved = true ↔ p.outcome = .done ∨ p.outcome = .lost := by
  simp [Piece.resolved]

/-- R58, R59: a slot with a piece that has not ended goes on. -/
theorem completeIfResolved_open {s : State} {i : SlotIx} {x : Slot} (hx : slotAt s i = some x)
    (h : ∃ q ∈ x.pieces, q.outcome ≠ .done ∧ q.outcome ≠ .lost) : completeIfResolved i s = s := by
  obtain ⟨q, hq, notEnded⟩ := h
  have notAll : ¬ x.pieces.all Piece.resolved = true := fun all =>
    not_or.2 notEnded ((resolved_iff q).1 (List.all_eq_true.1 all q hq))
  simp only [completeIfResolved, hx, if_neg notAll]

/-- R40: one whose pieces have all ended completes. -/
theorem completeIfResolved_all {s : State} {i : SlotIx} {x : Slot} (hx : slotAt s i = some x)
    (h : ∀ q ∈ x.pieces, q.outcome = .done ∨ q.outcome = .lost) :
    completeIfResolved i s = afterCompletion i x s := by
  have all : x.pieces.all Piece.resolved = true := List.all_eq_true.2 fun q hq => (resolved_iff q).2 (h q hq)
  simp only [completeIfResolved, hx, if_pos all, completeSlot_eq]

/-- What a report on a piece leaves as it is before its slot may complete: acceptance, the quiesce controller,
the fence list, and which slots are EMPTY. -/
structure KeepsWaits (s t : State) : Prop where
  acc : t.acc = s.acc
  quiesce : t.quiesce = s.quiesce
  fences : t.fence.list = s.fence.list
  live : ∀ i, slotLive t i = slotLive s i

theorem KeepsWaits.not_waitEnded {s t : State} (h : KeepsWaits s t) : ¬ waitEnded s t = true := by
  have stopped : acceptStopped t = acceptStopped s := by
    simp only [acceptStopped, tagState, h.acc, h.quiesce]
  have count : liveCount t = liveCount s := by
    rw [liveCount, liveCount, funext h.live]
  simp [waitEnded, stopped, count, h.fences]

/-- With a slot non-EMPTY and no wait ended, only the drain engine's test ends the event. -/
theorem settle_live {s t : State} {i : SlotIx} {x : Slot} (h : KeepsWaits s t) (hx : slotAt t i = some x) :
    settle s t = drainTest t := by
  rw [settle, quietTest_fails (.inr (quietCondition_live hx)), finishEvent_waits (.inr h.not_waitEnded)]

theorem keepsWaits_putSlot {s : State} {i : SlotIx} {x y : Slot} (hx : slotAt s i = some x) :
    KeepsWaits s (putSlot i (some y) s) where
  acc := rfl
  quiesce := rfl
  fences := rfl
  live := fun j => by
    rw [slotLive, slotLive, slotAt_putSlot]
    split
    · next same => rw [← same, hx]; rfl
    · rfl

theorem keepsWaits_reportLoss (r : LossRecord) (s : State) : KeepsWaits s (reportLoss r s) := by
  have f := frame_reportLoss r s
  have buf : (reportLoss r s).buf = s.buf := f.same .buf
  have fence : (addLoss r s).fence = s.fence := (frame_addLoss r s).same .fence
  exact ⟨f.same .acc, f.same .quiesce, by simp [reportLoss, fence], fun i => by simp only [slotLive, slotAt, buf]⟩

theorem KeepsWaits.trans {s t u : State} (h : KeepsWaits s t) (k : KeepsWaits t u) : KeepsWaits s u :=
  ⟨k.acc.trans h.acc, k.quiesce.trans h.quiesce, k.fences.trans h.fences, fun i => (k.live i).trans (h.live i)⟩

/-- How the event ends in which a piece of slot `i`, then with record `x`, has ended, and entry `m` becomes `y`. -/
theorem settle_piece {s t : State} {i : SlotIx} {x : Slot} (m : MemTag) (y : TrackerEntry) (h : KeepsWaits s t)
    (hx : slotAt t i = some x) :
    ((∃ q ∈ x.pieces, q.outcome ≠ .done ∧ q.outcome ≠ .lost) →
      settle s (putEntry m y (completeIfResolved i t)) = drainTest (putEntry m y t)) ∧
    ((∀ q ∈ x.pieces, q.outcome = .done ∨ q.outcome = .lost) →
      settle s (putEntry m y (completeIfResolved i t)) =
        finishEvent s (quietTest (afterCompletion i x (putEntry m y t)))) := by
  refine ⟨fun going => ?_, fun ended => ?_⟩
  · have kept : KeepsWaits s (putEntry m y t) := ⟨h.acc, h.quiesce, h.fences, h.live⟩
    rw [completeIfResolved_open hx going]
    exact settle_live kept hx
  · rw [completeIfResolved_all hx ended, ← completeSlot_eq, putEntry_completeSlot, completeSlot_eq, settle]

/-! ### DONE (R58) -/

theorem pieces_of_draining {x : Slot} {ps : List Piece} (h : x.phase = .draining ps) : x.pieces = ps := by
  simp only [Slot.pieces, h]

theorem pieceDone_eq {s : State} {i : SlotIx} {k : Fin 8} {x : Slot} (hx : slotAt s i = some x)
    (hk : k.val < x.pieces.length) :
    pieceDone i k s = completeIfResolved i (putSlot i (some (x.mark k.val .done)) s) := by
  simp only [pieceDone, hx, List.getElem?_eq_getElem hk]

theorem exec_done_issued {s : State} {m : MemTag} {req : MemRequest} {a n : Nat} (d : Lanes) (hr : s.inReset = false)
    (he : entryAt s m = .issued req a n) :
    exec (.done m d) s = .next (doneIssued m req d (s.setWires Wires.idle)) := by
  have he : entryAt (s.setWires Wires.idle) m = .issued req a n := he
  refine (event_outsideReset (takeDone m d) hr).trans (congrArg _ ?_)
  simp only [takeDone, he]

theorem mark_done {x : Slot} {ps : List Piece} (k : Nat) (h : x.phase = .draining ps) :
    x.mark k .done = { x with phase := .draining (setOutcome ps k .done) } := by
  simp [Slot.mark, pieces_of_draining h]

/-- R40: the steps of a completion, the first two written out. -/
theorem afterCompletion_eq (i : SlotIx) (x : Slot) (s : State) :
    afterCompletion i x s = directTest (fenceTest (releaseReads i
      { s with
        acc :=
          { s.acc with
            tags := x.waiters.foldl (fun v (t : Tag) => v.set t .responding) s.acc.tags
            queue := s.acc.queue ++ x.waiters.map fun t => if x.lost then .wackError t .memory else .wackOk t }
        buf := { slots := s.buf.slots.set i none, ages := s.buf.ages.filter (· != i) }
        drain := { queue := s.drain.queue.filter fun e => e.slot != i } })) := by
  rw [afterCompletion, afterEmptying]

/-- Settles O38: a DONE marks the piece (`pieceDone_eq`, `mark_done`), and the event ends by `settle_piece`. -/
theorem donePieceResolved : Obligations.DonePieceResolved := by
  refine ⟨fun s u m d i k op a n x x' ps left hr he hx hp hk hleft hx' hu => ?_, afterCompletion_eq⟩
  have pieces : x'.pieces = left := by rw [hx']; rfl
  have marked : x.mark k.val .done = x' := by rw [mark_done k.val hp, hx', hleft]
  have hx0 : slotAt (s.setWires Wires.idle) i = some x := hx
  have event : exec (.done m d) s = .next (settle (s.setWires Wires.idle)
      (putEntry m .free (completeIfResolved i (putSlot i (some x') (s.setWires Wires.idle))))) := by
    rw [exec_done_issued d hr he, ← marked, ← pieceDone_eq hx0 (by rwa [pieces_of_draining hp])]
    rfl
  have hu' : u = putEntry m .free (putSlot i (some x') (s.setWires Wires.idle)) := hu
  obtain ⟨going, ended⟩ := settle_piece m .free (keepsWaits_putSlot (y := x') hx0)
    (show slotAt (putSlot i (some x') (s.setWires Wires.idle)) i = some x' by rw [slotAt_putSlot, if_pos rfl])
  rw [finishEvent_setWires] at ended
  rw [event, hu', ← pieces]
  exact ⟨fun h => congrArg _ (going h), fun h => congrArg _ (ended h)⟩

/-! ### Given up (R59, R60) -/

theorem pieceLost_eq {s : State} {i : SlotIx} {k : Fin 8} {x : Slot} {p : Piece} (cause : LossCause) (j : Nat)
    (hx : slotAt s i = some x) (hk : x.pieces[k.val]? = some p) :
    pieceLost i k cause j s = completeIfResolved i
      (reportLoss (lossRecord x p cause j) (putSlot i (some (x.mark k.val .lost)) s)) := by
  simp only [pieceLost, hx, hk]

theorem mark_lost {x : Slot} {ps : List Piece} (k : Nat) (h : x.phase = .draining ps) :
    x.mark k .lost = { x with phase := .draining (setOutcome ps k .lost), lost := true } := by
  simp [Slot.mark, pieces_of_draining h]

/-- R125, R122, R126: each of the three give-ups of an ISSUED entry. -/
theorem exec_givesUp {s : State} {m : MemTag} {req : MemRequest} {a n j : Nat} {c : Instr} {y : TrackerEntry}
    {cause : LossCause} (hr : s.inReset = false) (he : entryAt s m = .issued req a n)
    (h : GivesUp s m a n c y cause j) :
    exec c s = .next (giveUp m y req cause j (s.setWires Wires.idle)) := by
  have he : entryAt (s.setWires Wires.idle) m = .issued req a n := he
  obtain ⟨rfl, rfl, rfl, rfl⟩ | ⟨rfl, limit, rfl, rfl, rfl⟩ | ⟨rfl, due, rfl, rfl, rfl⟩ := h
  · refine (event_outsideReset (takeFault m) hr).trans (congrArg _ ?_)
    simp only [takeFault, he]
  · refine (event_outsideReset (takeDefer m) hr).trans (congrArg _ ?_)
    simp [takeDefer, he, deferIssued, limit]
  · exact (event_outsideReset (responseExpires m) hr).trans (congrArg _ (responseExpires_due he due))

/-- R59, R167: what a loss record comes to in the log, the interrupt status and the fence unit. -/
theorem reportLoss_eq (r : LossRecord) (s : State) :
    reportLoss r s =
      { s with
        fence := { s.fence with loss := true }
        flog :=
          if s.flog.records.length < 8 then { s.flog with records := s.flog.records ++ [r] }
          else { s.flog with overflow := if s.flog.overflow = 255 then 255 else s.flog.overflow + 1 }
        irq := { s.irq with status := s.irq.status ||| (if s.flog.records.length < 8 then 1 else 2) } } := by
  have count : bumpCount s.flog.overflow = if s.flog.overflow = 255 then 255 else s.flog.overflow + 1 := by
    unfold bumpCount
    split
    · assumption
    · rfl
  unfold reportLoss addLoss
  split
  · rfl
  · rw [count]; rfl

/-- Settles O37: a give-up (`exec_givesUp`) marks the piece LOST and reports it (`pieceLost_eq`, `mark_lost`,
`reportLoss_eq`), and the event ends by `settle_piece`. -/
theorem lostPieceRecorded : Obligations.LostPieceRecorded := by
  intro s u m i k op a n j x x' ps left p c y cause hr he hx hp hk hc hleft hx' hu
  have pieces : x'.pieces = left := by rw [hx']; rfl
  have marked : x.mark k.val .lost = x' := by rw [mark_lost k.val hp, hx', hleft]
  have hx0 : slotAt (s.setWires Wires.idle) i = some x := hx
  have reported : u = putEntry m y
      (reportLoss (lossRecord x p cause j) (putSlot i (some x') (s.setWires Wires.idle))) := by
    rw [reportLoss_eq, hu]
    rfl
  have event : exec c s = .next (settle (s.setWires Wires.idle) (putEntry m y (completeIfResolved i
      (reportLoss (lossRecord x p cause j) (putSlot i (some x') (s.setWires Wires.idle)))))) := by
    rw [exec_givesUp hr he hc, ← marked, ← pieceLost_eq cause j hx0 (by rwa [pieces_of_draining hp])]
    rfl
  have slot : slotAt (reportLoss (lossRecord x p cause j) (putSlot i (some x') (s.setWires Wires.idle))) i =
      some x' := by
    rw [reportLoss_eq]
    exact (slotAt_putSlot i i (some x') _).trans (if_pos rfl)
  obtain ⟨going, ended⟩ := settle_piece m y
    ((keepsWaits_putSlot (y := x') hx0).trans (keepsWaits_reportLoss (lossRecord x p cause j) _)) slot
  rw [finishEvent_setWires] at ended
  rw [event, reported, ← pieces]
  exact ⟨fun h => congrArg _ (going h), fun h => congrArg _ (ended h)⟩

end Sys2Proof.Machine
end

section
/-! PROOFS. The read unit: a read answered, a read with no slot of its line, and a read that leaves its dependencies (O39). -/

namespace Sys2Proof.Machine

set_option Elab.async false

/-! ### A read answered (R89) -/

theorem answerRead_eq {r : ReadRecord} {a : Response} (s : State) (h : a.tag = r.tag) :
    answerRead a s = afterAnswer r a s := by
  rw [answerRead, pushResponse, h]
  rfl

theorem readData_tag (r : ReadRecord) (d : Lanes) : (readData r d).tag = r.tag := rfl

/-! ### A read with no slot of its line (R79, steps 2 and 3) -/

/-- R85: no entry can serve the read: its class is not COMBINE, or its line has no entry or a STALE one. -/
def Unserved (s : State) (r : ReadRecord) : Prop :=
  r.cls ≠ .combine ∨ pfOfLine s r.span.line = none ∨
    ∃ e x j, pfOfLine s r.span.line = some e ∧ pfAt s e = some x ∧ x.state = .stale j

/-- R84: the state of an entry that a read of tag `t` can join, before and after it has. -/
def Joins (t : Tag) (before after : PfState) (j : List Tag) : Prop :=
  before = .requested j ∧ after = .requested (j ++ [t]) ∨ before = .pending j ∧ after = .pending (j ++ [t])

theorem routeRead_unserved {s : State} {r : ReadRecord} (h : Unserved s r) : routeRead r s = demandRead r s := by
  obtain other | none | ⟨e, x, j, he, hx, stale⟩ := h
  · simp only [routeRead, beq_iff_eq, if_neg other]
  · simp only [routeRead, none, ite_self]
  · simp only [routeRead, he, hx, stale, ite_self]

theorem routeRead_joins {s : State} {r : ReadRecord} {e : PfIx} {x : PfEntry} {j : List Tag} {st : PfState}
    (hc : r.cls = .combine) (he : pfOfLine s r.span.line = some e) (hx : pfAt s e = some x)
    (h : Joins r.tag x.state st j) : routeRead r s = joinRead r e x st s := by
  obtain ⟨requested, rfl⟩ | ⟨pending, rfl⟩ := h
  · simp only [routeRead, hc, he, hx, requested, beq_self_eq_true, if_true]
  · simp only [routeRead, hc, he, hx, pending, beq_self_eq_true, if_true]

theorem routeRead_valid {s : State} {r : ReadRecord} {e : PfIx} {x : PfEntry} {d : Lanes} (hc : r.cls = .combine)
    (he : pfOfLine s r.span.line = some e) (hx : pfAt s e = some x) (h : x.state = .valid d) :
    routeRead r s = serveRead r e d s := by
  simp only [routeRead, hc, he, hx, h, beq_self_eq_true, if_true]

/-- R83, R101, R105: the read answered, the entry most recently used, and then the read's trigger. -/
theorem serveRead_eq (r : ReadRecord) (e : PfIx) (d : Lanes) (s : State) :
    serveRead r e d s = readTrigger r
      { afterAnswer r (readData r d) s with pf := { s.pf with recency := s.pf.recency.filter (· != e) ++ [e] } } := by
  rw [serveRead, answerRead_eq s (readData_tag r d)]
  rfl

/-! ### Dependencies (R82) -/

/-- A record that does not wait on slot `i` hears of it without effect. -/
theorem releaseRead_independent {s : State} {i : SlotIx} {t : Tag} {r : ReadRecord} (hr : readOf s t = some r)
    (h : ∀ deps, r.state = .waitDeps deps → i ∉ deps) : releaseRead i t s = s := by
  cases hs : r.state with
  | waitDeps deps => simp [releaseRead, hr, hs, h deps hs]
  | waitGrant | issued | joined | directWait => simp only [releaseRead, hr, hs]

theorem releaseRead_waits {s : State} {i : SlotIx} {t : Tag} {r : ReadRecord} {deps : List SlotIx}
    (hr : readOf s t = some r) (hs : r.state = .waitDeps deps) (hi : i ∈ deps) (h : deps.filter (· != i) ≠ []) :
    releaseRead i t s = putRead { r with state := .waitDeps (deps.filter (· != i)) } s := by
  simp only [releaseRead, hr, hs, List.contains_iff_mem, hi, if_true, List.isEmpty_iff, if_neg h]

theorem releaseRead_last {s : State} {i : SlotIx} {t : Tag} {r : ReadRecord} {deps : List SlotIx}
    (hr : readOf s t = some r) (hs : r.state = .waitDeps deps) (hi : i ∈ deps) (h : deps.filter (· != i) = []) :
    releaseRead i t s = routeRead r s := by
  simp only [releaseRead, hr, hs, List.contains_iff_mem, hi, if_true, List.isEmpty_iff, if_pos h]

/-- A record of the list moves to another state. -/
theorem putRead_state {s : State} {r : ReadRecord} (st : ReadState) (hr : readOf s r.tag = some r) :
    putRead { r with state := st } s = s.setRd { reads := replaceRead { r with state := st } s.rd.reads } :=
  putRead_old (r := { r with state := st }) hr

/-- Settles O39: a record drops slot `i` (`releaseRead_waits`), and with no dependency left it goes the way of
`routeRead` (`releaseRead_last`). -/
theorem readsReleased : Obligations.ReadsReleased := by
  refine ⟨fun i s => rfl, fun i s t r hr => ?_⟩
  obtain rfl := readOf_tag hr
  refine ⟨releaseRead_independent hr, fun deps left hs hi hleft => ?_⟩
  subst hleft
  refine ⟨fun more => ?_, fun last => ?_⟩
  · rw [releaseRead_waits hr hs hi more, putRead_state _ hr]
    rfl
  rw [releaseRead_last hr hs hi last]
  refine ⟨fun unserved => ?_, fun e x hc he hx => ⟨fun j st joins => ?_, fun d valid => ?_⟩⟩
  · rw [routeRead_unserved unserved, demandRead, putRead_state _ hr]
    rfl
  · have hr' : readOf (putPf e (some { x with state := st }) s) r.tag = some r := hr
    rw [routeRead_joins hc he hx joins, joinRead, putRead_state _ hr']
    rfl
  · rw [routeRead_valid hc he hx valid, serveRead_eq]
    rfl

end Sys2Proof.Machine
end

section
/-! PROOFS. A READ in COMBINE or SEQUENCE is taken: with slots of its line (O15), and with none (O16). -/

namespace Sys2Proof.Machine

set_option Elab.async false

/-! ### Taken from the link -/

/-- R10, R13: the state once the READ `r` is taken and its tag waits in READ. -/
def takenRead (r : Request) (s : State) : State :=
  { s with acc := s.acc.taken r.tag .read, wires := Wires.taken }

theorem setTag_takeHead (r : Request) (s : State) :
    setTag r.tag .read (takeHead (s.setWires Wires.idle)) = takenRead r s := rfl

theorem dispatch_read {s : State} {r : Request} (m : IReqMsg) (hop : r.op = .read)
    (hc : (classOf s r).cls = .combine ∨ (classOf s r).cls = .sequence) :
    dispatch m r s = acceptRead r (classOf s r) s := by
  have named : classify s.win (pageOf r.span.addr) = classOf s r := rfl
  obtain hc | hc := hc <;> simp [dispatch, hop, dispatchAccess, named, hc]

theorem exec_read {s : State} {m : IReqMsg} {r : Request} (h : Admitted s m r) (hop : r.op = .read)
    (hc : (classOf s r).cls = .combine ∨ (classOf s r).cls = .sequence) :
    exec (.requestPresented (some m)) s =
      .next (drainTest (acceptRead r (classOf s r) (s.setWires Wires.idle))) := by
  rw [exec_admitted h, dispatch_read (s := s.setWires Wires.idle) m hop hc]
  rfl

/-- A read whose tag was FREE has no record before it is taken. -/
theorem readOf_takenRead {s : State} {r : Request} (tags : TagsWhole s) (free : tagState s r.tag = .free) :
    readOf (takenRead r s) r.tag = none :=
  readOf_eq_none.2 (tags.unheld_of_free free).reads

/-- R89: a read answered at its acceptance leaves no record. -/
theorem afterAnswer_takenRead {s : State} {r : Request} {q : ReadRecord} (a : Response) (hq : q.tag = r.tag)
    (ha : a.tag = r.tag) (fresh : readOf (takenRead r s) r.tag = none) :
    afterAnswer q a (takenRead r s) =
      { s with
        acc := s.acc.answered a
        buf := { s.buf with slots := slotsWithoutBlocker s.buf.slots r.tag }
        wires := Wires.taken } := by
  have kept : s.rd.reads.filter (fun p => p.tag != r.tag) = s.rd.reads :=
    List.filter_eq_self.2 fun p hp => by simpa using readOf_eq_none.1 fresh p hp
  simp only [afterAnswer, takenRead, Acceptance.taken, Acceptance.answered, hq, ha, Vector.set_set, kept]

/-! ### Slots of the line (R80, R81) -/

theorem acceptRead_covered {s : State} {r : Request} {i : SlotIx} {x : Slot} (c : Classification)
    (hi : youngestOfLine s r.span.line = some i) (hx : slotAt s i = some x) (h : covers x.valid r.span.mask = true) :
    acceptRead r c (s.setWires Wires.idle) =
      answerRead (readData (readRecord r c .waitGrant) x.data) (takenRead r s) := by
  have hi : youngestOfLine (takenRead r s) r.span.line = some i := hi
  have hx : slotAt (takenRead r s) i = some x := hx
  simp only [acceptRead, setTag_takeHead, hi, slotCovers, hx, h, if_true, forwardRead, slotData]

theorem acceptRead_uncovered {s : State} {r : Request} {i : SlotIx} {x : Slot} (c : Classification)
    (hi : youngestOfLine s r.span.line = some i) (hx : slotAt s i = some x) (h : covers x.valid r.span.mask = false) :
    acceptRead r c (s.setWires Wires.idle) =
      sealLine r.span.line (putRead (readRecord r c (.waitDeps (slotsOfLine s r.span.line))) (takenRead r s)) := by
  have hi : youngestOfLine (takenRead r s) r.span.line = some i := hi
  have hx : slotAt (takenRead r s) i = some x := hx
  have slots : slotsOfLine (takenRead r s) r.span.line = slotsOfLine s r.span.line := rfl
  simp only [acceptRead, setTag_takeHead, hi, slotCovers, hx, h, slots, Bool.false_eq_true, if_false]

theorem sealLine_none {s : State} {l : Line} (h : fillingOfLine s l = none) : sealLine l s = s := by
  rw [sealLine, h]

/-- The FILLING slot found for a line has a record, which is FILLING. -/
theorem slot_of_fillingOfLine {s : State} {l : Line} {k : SlotIx} (h : fillingOfLine s l = some k) :
    ∃ y, slotAt s k = some y ∧ y.isFilling = true := by
  have found := List.find?_some h
  cases hy : slotAt s k with
  | none => simp [holds, hy] at found
  | some y =>
    rw [Bool.and_eq_true, slotFilling_of_some hy] at found
    exact ⟨y, rfl, found.2⟩

/-- R35: the FILLING slot of the line is sealed. -/
theorem sealLine_some {s : State} {l : Line} {k : SlotIx} {y : Slot} (h : fillingOfLine s l = some k)
    (hy : slotAt s k = some y) (hf : y.isFilling = true) :
    sealLine l s =
      { s with
        buf := { s.buf with slots := s.buf.slots.set k (some { y with phase := .sealed }) }
        drain := { queue := s.drain.queue ++ [{ slot := k, age := 0 }] } } := by
  rw [sealLine, h]
  exact sealSlot_filling hy hf

/-- Settles O15: a covered read is answered (`acceptRead_covered`); another waits on the line's slots
(`acceptRead_uncovered`), and its FILLING slot is sealed (`sealLine_some`). -/
theorem readOfBufferedLine : Obligations.ReadOfBufferedLine := by
  intro s m r i x h tags hop hc hi hx
  obtain ⟨-, -, -, free, -⟩ := id h
  have fresh := readOf_takenRead tags free
  rw [exec_read h hop hc]
  refine ⟨fun covered => ?_, fun uncovered => ⟨_, rfl, ?_⟩⟩
  · rw [acceptRead_covered _ hi hx covered, answerRead_eq _ (readData_tag _ _),
      afterAnswer_takenRead (readData _ _) rfl rfl fresh]
    rfl
  · rw [acceptRead_uncovered _ hi hx uncovered,
      putRead_new (r := readRecord r _ (.waitDeps (slotsOfLine s r.span.line))) fresh]
    cases hk : fillingOfLine s r.span.line with
    | none =>
      rw [sealLine_none (s := (takenRead r s).setRd _) hk]
      exact ⟨rfl, fun _ => ⟨rfl, rfl⟩, by simp⟩
    | some k =>
      obtain ⟨y, hy, filling⟩ := slot_of_fillingOfLine hk
      rw [sealLine_some (s := (takenRead r s).setRd _) hk hy filling]
      refine ⟨rfl, by simp, fun k' y' same hy' => ?_⟩
      obtain rfl := Option.some.inj same
      obtain rfl := Option.some.inj (hy.symm.trans hy')
      exact ⟨rfl, rfl⟩

/-! ### No slot of the line (R83 to R85) -/

theorem acceptRead_unbuffered {s : State} {r : Request} (c : Classification)
    (h : youngestOfLine s r.span.line = none) :
    acceptRead r c (s.setWires Wires.idle) = routeRead (readRecord r c .waitGrant) (takenRead r s) := by
  have h : youngestOfLine (takenRead r s) r.span.line = none := h
  simp only [acceptRead, setTag_takeHead, h]

theorem exec_read_unbuffered {s : State} {m : IReqMsg} {r : Request} (h : Admitted s m r) (hop : r.op = .read)
    (hl : youngestOfLine s r.span.line = none)
    (hc : (classOf s r).cls = .combine ∨ (classOf s r).cls = .sequence) :
    exec (.requestPresented (some m)) s =
      .next (drainTest (routeRead (readRecord r (classOf s r) .waitGrant) (takenRead r s))) := by
  rw [exec_read h hop hc, acceptRead_unbuffered _ hl]

/-- Settles O16: with no slot of its line the read goes the way of `routeRead` (`exec_read_unbuffered`), by the entry of
its line. -/
theorem readOfUnbufferedLine : Obligations.ReadOfUnbufferedLine := by
  intro s m r q h tags hop hl hq
  obtain ⟨-, -, -, free, -⟩ := id h
  have fresh := readOf_takenRead tags free
  have record : q = readRecord r (classOf s r) .waitGrant := hq
  have routed := exec_read_unbuffered h hop hl
  rw [← record] at routed
  have tag : q.tag = r.tag := by rw [record]; rfl
  have line : q.span.line = r.span.line := by rw [record]; rfl
  have cls : q.cls = (classOf s r).cls := by rw [record]; rfl
  refine ⟨fun demand => ?_, fun e x hc he hx => ⟨fun j st joins => ?_, fun d valid => ?_⟩⟩
  · have unserved : Unserved (takenRead r s) q := by
      rw [Unserved, cls, line]
      exact demand.imp (fun sequence => by simp [sequence]) And.right
    rw [routed (demand.symm.imp_left And.left), routeRead_unserved unserved, demandRead,
      putRead_new (r := { q with state := .waitGrant }) (tag ▸ fresh), tag, record]
    rfl
  all_goals rw [routed (.inl hc)]; rw [← cls] at hc; rw [← line] at he
  · have fresh' : readOf (putPf e (some { x with state := st }) (takenRead r s)) q.tag = none := tag ▸ fresh
    rw [routeRead_joins (s := takenRead r s) hc he hx (tag ▸ joins), joinRead,
      putRead_new (r := { q with state := .joined e }) fresh']
    rfl
  · rw [routeRead_valid (s := takenRead r s) hc he hx valid, serveRead_eq,
      afterAnswer_takenRead (readData q d) tag tag fresh, record]
    rfl

end Sys2Proof.Machine
end

section
/-! PROOFS. The outcomes of the DIRECT path's requests: a read answered, the pieces of a write ended (O36). -/

namespace Sys2Proof.Machine

set_option Elab.async false

/-! ### Reports to the DIRECT path (R93, R95) -/

/-- R93: what a DIRECT read is answered, with the data returned or, given up, without. -/
def directAnswer (d : Lanes) (failed : Bool) (r : ReadRecord) : Response :=
  if failed then .rdataError r.tag .memory else readData r d

/-- R95: what a piece of a DIRECT write ends with. -/
def endedAs (failed : Bool) : PieceOutcome := if failed then .lost else .done

theorem directAnswer_tag (d : Lanes) (failed : Bool) (r : ReadRecord) : (directAnswer d failed r).tag = r.tag := by
  cases failed <;> rfl

theorem endedAs_lost (failed : Bool) : (endedAs failed == .lost) = failed := by
  cases failed <;> rfl

theorem directReport_read {s : State} {t : Tag} {r : ReadRecord} (k : Fin 8) (d : Lanes) (failed : Bool)
    (hr : readOf s t = some r) (ha : r.access = .read) :
    directReport t k (directAnswer d failed) (endedAs failed) s = afterAnswer r (directAnswer d failed r) s := by
  simp only [directReport, hr, ha, answerRead_eq s (directAnswer_tag d failed r)]

section Write

variable {s : State} {t : Tag} {r : ReadRecord} {data : Lanes} {ps : List Piece} {lost : Bool} (k : Fin 8) (d : Lanes)
  (failed : Bool)

theorem directReport_write (hr : readOf s t = some r) (ha : r.access = .write data)
    (hs : r.state = .directWait (.released ps) lost) :
    directReport t k (directAnswer d failed) (endedAs failed) s = directPieceEnds r ps k (endedAs failed) s := by
  simp only [directReport, hr, ha, ReadRecord.released, hs]

theorem directPieceEnds_going (hr : readOf s r.tag = some r) (hs : r.state = .directWait (.released ps) lost)
    (h : ∃ p ∈ setOutcome ps k (endedAs failed), p.outcome ≠ .done ∧ p.outcome ≠ .lost) :
    directPieceEnds r ps k (endedAs failed) s =
      s.setRd
        { reads := replaceRead
            { r with state := .directWait (.released (setOutcome ps k (endedAs failed))) (lost || failed) }
            s.rd.reads } := by
  obtain ⟨p, hp, notEnded⟩ := h
  have notAll : ¬ (setOutcome ps k (endedAs failed)).all Piece.resolved = true := fun all =>
    not_or.2 notEnded ((resolved_iff p).1 (List.all_eq_true.1 all p hp))
  have flag : r.lost = lost := by simp only [ReadRecord.lost, hs]
  simp only [directPieceEnds, if_neg notAll, flag, endedAs_lost, putRead_state _ hr]

theorem directPieceEnds_last (hs : r.state = .directWait (.released ps) lost)
    (h : ∀ p ∈ setOutcome ps k (endedAs failed), p.outcome = .done ∨ p.outcome = .lost) :
    directPieceEnds r ps k (endedAs failed) s = afterAnswer r (waiterAnswer (lost || failed) r.tag) s := by
  have all : (setOutcome ps k (endedAs failed)).all Piece.resolved = true :=
    List.all_eq_true.2 fun p hp => (resolved_iff p).2 (h p hp)
  have flag : r.lost = lost := by simp only [ReadRecord.lost, hs]
  simp only [directPieceEnds, if_pos all, flag, endedAs_lost, answerRead_eq s (waiterAnswer_tag (lost || failed) r.tag)]

end Write

/-! ### The report's event -/

/-- R128, R127: DONE and each give-up of a DIRECT request are reported, and the entry becomes `y`. -/
theorem exec_directReport {s : State} {m : MemTag} {t : Tag} {k : Fin 8} {op : MemOp} {a n : Nat} {c : Instr}
    {y : TrackerEntry} {d : Lanes} {failed : Bool} (hr : s.inReset = false)
    (he : entryAt s m = .issued { origin := .direct t k, op := op } a n)
    (h : failed = false ∧ c = .done m d ∧ y = .free ∨ failed = true ∧ ∃ cause j, GivesUp s m a n c y cause j) :
    exec c s = .next (finishEvent s (quietTest (putEntry m y
      (directReport t k (directAnswer d failed) (endedAs failed) (s.setWires Wires.idle))))) := by
  obtain ⟨rfl, rfl, rfl⟩ | ⟨rfl, cause, j, givesUp⟩ := h
  · rw [exec_done_issued d hr he, doneIssued, settle, finishEvent_setWires]
    rfl
  · rw [exec_givesUp hr he givesUp, giveUp, settle, finishEvent_setWires]
    rfl

/-- R154: a pending DIRECT write keeps the part from QUIET. -/
theorem quietCondition_directWrite {s : State} {r : ReadRecord} {data : Lanes} (hr : r ∈ s.rd.reads)
    (ha : r.access = .write data) : quietCondition s = false := by
  refine Bool.eq_false_iff.2 fun quiet => ?_
  obtain ⟨-, reads, -⟩ := (quietCondition_iff s).1 quiet
  simp [reads r hr] at ha

/-- With a DIRECT write pending and no wait ended, only the drain engine's test ends the event. -/
theorem finishEvent_directWrite {s u : State} {r : ReadRecord} {data : Lanes} (k : KeepsWaits s u)
    (hr : r ∈ u.rd.reads) (ha : r.access = .write data) : finishEvent s (quietTest u) = drainTest u := by
  rw [quietTest_fails (.inr (quietCondition_directWrite hr ha)), finishEvent_waits (.inr k.not_waitEnded)]

/-- A record that takes the place of one in the list stands in it. -/
theorem mem_replaceRead {r q : ReadRecord} {reads : List ReadRecord} (hq : q ∈ reads) (ht : q.tag = r.tag) :
    r ∈ replaceRead r reads :=
  List.mem_map.2 ⟨q, hq, by simp [ht]⟩

/-- Settles O36: the report answers the read (`directReport_read`) or ends the piece (`directPieceEnds_going`,
`directPieceEnds_last`); a write that goes on keeps the part from QUIET (`finishEvent_directWrite`). -/
theorem directAccessAnswered : Obligations.DirectAccessAnswered := by
  intro s u m t k op a n r c y d failed reset he hr hc hu
  obtain rfl := readOf_tag hr
  have event := exec_directReport reset he hc
  have hr0 : readOf (s.setWires Wires.idle) r.tag = some r := hr
  have entry : ∀ ans, putEntry m y (afterAnswer r ans (s.setWires Wires.idle)) = afterAnswer r ans u := fun _ => by
    rw [hu]; rfl
  refine ⟨fun ha => ?_, fun data ps left lost lost' ha hs hleft hlost => ?_⟩
  · rw [event, directReport_read k d failed hr0 ha, entry]
    rfl
  rw [directReport_write k d failed hr0 ha hs] at event
  have left_eq : left = setOutcome ps k (endedAs failed) := hleft
  refine ⟨fun going => ?_, fun last => ?_⟩
  · rw [left_eq] at going
    rw [event, directPieceEnds_going k failed hr0 hs going, hu, left_eq, hlost]
    exact congrArg _ (finishEvent_directWrite ⟨rfl, rfl, rfl, fun _ => rfl⟩ (mem_replaceRead (readOf_mem hr) rfl) ha)
  · rw [left_eq] at last
    rw [event, directPieceEnds_last k failed hs last, entry, hlost]
    rfl

end Sys2Proof.Machine
end

section
/-! PROOFS. The prefetch buffer: a write report to the entry of its line (O14), and a trigger with its victim (O17). -/

namespace Sys2Proof.Machine

set_option Elab.async false

/-! ### An entry made EMPTY (R101) -/

/-- R101: an entry that stands once in the recency order goes to its least recently used end. -/
theorem toLru_singleton {e : PfIx} {order : List PfIx} (nodup : order.Nodup) (he : e ∈ order) :
    toLru [e] order = e :: order.filter (· != e) := by
  have alone : ∀ f, [e].contains f = (f == e) := fun f => Bool.or_false _
  have itself : order.filter (· == e) = [e] := by
    rw [List.filter_beq, List.count_eq_one_of_mem nodup he, List.replicate_one]
  simp only [toLru, alone, itself, List.singleton_append]
  rfl

theorem emptyPf_eq {s : State} (h : RecencyWhole s) (e : PfIx) :
    emptyPf [e] s = s.setPf { entries := s.pf.entries.set e none, recency := e :: s.pf.recency.filter (· != e) } := by
  rw [emptyPf_singleton, toLru_singleton h.1 (h.2 e)]

/-! ### A write report (R109) -/

section Spoil

variable {s : State} {e : PfIx} {x : PfEntry} {j : List Tag}

theorem spoilEntry_valid {d : Lanes} (hx : pfAt s e = some x) (h : x.state = .valid d) :
    spoilEntry e s = emptyPf [e] s := by
  simp only [spoilEntry, hx, h]

theorem spoilEntry_pending (hx : pfAt s e = some x) (h : x.state = .pending j) :
    spoilEntry e s = putPf e (some { x with state := .stale j }) s := by
  simp only [spoilEntry, hx, h]

theorem spoilEntry_stale (hx : pfAt s e = some x) (h : x.state = .stale j) : spoilEntry e s = s := by
  simp only [spoilEntry, hx, h]

theorem spoilEntry_requested (hx : pfAt s e = some x) (h : x.state = .requested j) :
    spoilEntry e s = fallBackAll j (emptyPf [e] (withdraw .prefetch (.prefetch e) s)) := by
  simp only [spoilEntry, hx, h]

end Spoil

theorem writeReport_none {s : State} {l : Line} (h : pfOfLine s l = none) : writeReport l s = s := by
  simp only [writeReport, h]

theorem writeReport_some {s : State} {l : Line} {e : PfIx} (h : pfOfLine s l = some e) :
    writeReport l s = spoilEntry e s := by
  simp only [writeReport, h]

/-- R84: reads that all have a record fall back, every one of them. -/
theorem afterFallBack_held {s : State} {ts : List Tag} (h : ∀ t ∈ ts, (readOf s t).isSome = true) :
    afterFallBack ts s =
      { s with
        rd := { reads := s.rd.reads.map fun q => if q.tag ∈ ts then { q with state := .waitGrant } else q }
        arb := { s.arb with demand := s.arb.demand ++ ts.map .read } } := by
  rw [afterFallBack, List.filter_eq_self.2 h]

/-- Settles O14: the report goes to the line's entry (`writeReport_some`), which is spoiled by its state; a REQUESTED
one's joined reads all fall back (`fallBackAll_eq`, `afterFallBack_held`). -/
theorem writeReportSpoilsEntry : Obligations.WriteReportSpoilsEntry := by
  refine ⟨fun s l => writeReport_none, fun s l e x recency he hx => ?_⟩
  rw [writeReport_some he]
  refine ⟨fun d valid => ?_, fun j pending => ?_, fun j stale => ?_, fun j requested tags held => ?_⟩
  · rw [spoilEntry_valid hx valid, emptyPf_eq recency]
    rfl
  · rw [spoilEntry_pending hx pending]
    rfl
  · exact spoilEntry_stale hx stale
  · have apart : TagsApart (emptyPf [e] (withdraw .prefetch (.prefetch e) s)) := tags.2.1.1
    rw [spoilEntry_requested hx requested, fallBackAll_eq apart,
      afterFallBack_held (s := emptyPf [e] (withdraw .prefetch (.prefetch e) s)) held,
      emptyPf_eq (s := withdraw .prefetch (.prefetch e) s) recency]
    rfl

/-! ### Whether a trigger acts (R102) -/

/-- A line's page is its number without the low six bits. -/
theorem pageOf_lineAddr (l : Line) : (pageOf (lineAddr l)).toNat = l.toNat / 64 := by
  have := l.isLt
  simp only [pageOf, lineAddr, BitVec.extractLsb'_toNat, BitVec.toNat_append, Nat.shiftRight_eq_div_pow,
    Nat.shiftLeft_eq, BitVec.toNat_ofNat, Nat.zero_mod, Nat.or_zero]
  omega

theorem lastOfPage_iff (l : Line) : lastOfPage l = true ↔ l.toNat % 64 = 63 := by
  simp [lastOfPage, BitVec.toNat_eq]

/-- R102: the next line lies in the same page but for the last line of a page; the last line of all has page 0 next. -/
theorem nextLine_samePage_iff (l : Line) :
    pageOf (lineAddr (l + 1)) = pageOf (lineAddr l) ↔ lastOfPage l = false := by
  have := l.isLt
  rw [← Bool.not_eq_true, lastOfPage_iff, BitVec.toNat_eq, pageOf_lineAddr, pageOf_lineAddr, BitVec.toNat_add]
  have one : (1 : Line).toNat = 1 := rfl
  omega

theorem pfOfLine_eq_none {s : State} {l : Line} :
    pfOfLine s l = none ↔ ∀ e x, pfAt s e = some x → x.line ≠ l := by
  rw [pfOfLine, List.find?_eq_none]
  refine ⟨fun h e x hx same => h e (List.mem_finRange e) ?_, fun h e _ holds => ?_⟩
  · simp [pfHolds, hx, same]
  · cases hx : pfAt s e with
    | none => simp [pfHolds, hx] at holds
    | some x => exact h e x hx (by simpa [pfHolds, hx] using holds)

theorem slotsOfLine_eq_nil {s : State} {l : Line} :
    slotsOfLine s l = [] ↔ ∀ i x, slotAt s i = some x → x.line ≠ l := by
  rw [slotsOfLine, List.filter_eq_nil_iff]
  refine ⟨fun h i x hx same => h i (List.mem_finRange i) ?_, fun h i _ held => ?_⟩
  · simp [holds, hx, same]
  · cases hx : slotAt s i with
    | none => simp [holds, hx] at held
    | some x => exact h i x hx (by simpa [holds, hx] using held)

theorem triggerAllowed_iff (l : Line) (s : State) :
    triggerAllowed l s = true ↔
      pageOf (lineAddr (l + 1)) = pageOf (lineAddr l) ∧ (∀ e x, pfAt s e = some x → x.line ≠ l + 1) ∧
        (∀ i x, slotAt s i = some x → x.line ≠ l + 1) ∧ s.quiesce.state = .run := by
  rw [nextLine_samePage_iff, ← pfOfLine_eq_none, ← slotsOfLine_eq_nil]
  simp [triggerAllowed, and_assoc]

/-! ### The victim (R103) -/

theorem canBeVictim_iff (s : State) (e : PfIx) :
    canBeVictim s e = true ↔ pfAt s e = none ∨ ∃ x d, pfAt s e = some x ∧ x.state = .valid d := by
  cases hx : pfAt s e with
  | none => simp [canBeVictim, hx]
  | some x => cases hs : x.state <;> simp [canBeVictim, hx, hs]

theorem canBeVictim_eq_false (s : State) (e : PfIx) :
    canBeVictim s e = false ↔ ∃ x, pfAt s e = some x ∧ ∀ d, x.state ≠ .valid d := by
  rw [← Bool.not_eq_true, canBeVictim_iff]
  cases pfAt s e <;> simp

theorem victim_none {s : State} (h : ∀ e ∈ s.pf.recency, canBeVictim s e = false) : victim s = none :=
  List.find?_eq_none.2 fun e he => by simp [h e he]

theorem victim_first {s : State} {before after : List PfIx} {e : PfIx} (order : s.pf.recency = before ++ e :: after)
    (passed : ∀ b ∈ before, canBeVictim s b = false) (free : canBeVictim s e = true) : victim s = some e :=
  List.find?_eq_some_iff_append.2 ⟨free, before, after, order, fun b hb => by simp [passed b hb]⟩

/-! ### What a trigger does -/

theorem trigger_refused {l : Line} {s : State} (w : Fin 8) (h : ¬ triggerAllowed l s = true) : trigger l w s = s :=
  if_neg h

theorem trigger_noVictim {s : State} (l : Line) (w : Fin 8) (h : victim s = none) : trigger l w s = s := by
  simp only [trigger, h, ite_self]

theorem trigger_acts {l : Line} {s : State} {e : PfIx} (w : Fin 8) (allowed : triggerAllowed l s = true)
    (h : victim s = some e) :
    trigger l w s = offer .prefetch (.prefetch e)
      (markMru e (putPf e (some { line := l + 1, window := w, state := .requested [] }) s)) := by
  simp only [trigger, h, if_pos allowed]

theorem readTrigger_offers {r : ReadRecord} {w : Fin 8} (s : State) (hc : r.cls = .combine) (hp : r.prefetch = true)
    (hw : r.window = .win w) : readTrigger r s = trigger r.span.line w s := by
  simp [readTrigger, hc, hp, hw]

theorem readTrigger_none {r : ReadRecord} (s : State)
    (h : r.cls ≠ .combine ∨ r.prefetch = false ∨ r.window = .default) : readTrigger r s = s := by
  cases hw : r.window with
  | default => simp only [readTrigger, hw]
  | win w =>
    obtain other | disabled | noWindow := h
    · simp [readTrigger, hw, other]
    · simp [readTrigger, hw, disabled]
    · simp [hw] at noWindow

/-- Settles O17: the conditions are `triggerAllowed_iff`, the victim `victim_first` or `victim_none`. -/
theorem prefetchTrigger : Obligations.PrefetchTrigger := by
  refine ⟨fun r s => ⟨fun w => readTrigger_offers s, readTrigger_none s⟩, fun s l w allowed conditions => ?_⟩
  rw [← triggerAllowed_iff] at conditions
  subst conditions
  refine ⟨trigger_refused w, fun held => ?_, fun before e after acts order passed free => ?_⟩
  · exact trigger_noVictim l w (victim_none fun e he => (canBeVictim_eq_false s e).2 (held e he))
  · rw [trigger_acts w acts (victim_first order (fun b hb => (canBeVictim_eq_false s b).2 (passed b hb))
      ((canBeVictim_iff s e).2 free))]
    rfl

end Sys2Proof.Machine
end

section
/-! PROOFS. The outcomes of a prefetch: DONE and the give-ups (O40). -/

namespace Sys2Proof.Machine

set_option Elab.async false

/-! ### Reports to the prefetch buffer (R106 to R108) -/

theorem answerJoined_unheld {s : State} {t : Tag} (d : Lanes) (h : readOf s t = none) : answerJoined d s t = s := by
  simp only [answerJoined, h]

theorem answerJoined_held {s : State} {t : Tag} {r : ReadRecord} (d : Lanes) (h : readOf s t = some r) :
    answerJoined d s t = afterAnswer r (.rdataOk t (takeLanes r.span.mask d)) s := by
  obtain rfl := readOf_tag h
  simp only [answerJoined, h, answerRead_eq s (readData_tag r d)]
  rfl

section Report

variable {s : State} {e : PfIx} {x : PfEntry} {j : List Tag}

theorem prefetchDone_pending (d : Lanes) (hx : pfAt s e = some x) (h : x.state = .pending j) :
    prefetchDone e d s = prefetchArrived e x j d s := by
  simp only [prefetchDone, hx, h]

theorem prefetchDone_stale (d : Lanes) (hx : pfAt s e = some x) (h : x.state = .stale j) :
    prefetchDone e d s = emptyPf [e] (answerJoins d j s) := by
  simp only [prefetchDone, hx, h]

theorem prefetchLost_joined (hx : pfAt s e = some x) (h : x.state = .pending j ∨ x.state = .stale j) :
    prefetchLost e s = fallBackAll j (emptyPf [e] s) := by
  obtain pending | stale := h
  · simp only [prefetchLost, hx, pending]
  · simp only [prefetchLost, hx, stale]

end Report

/-- R106, R101, R84: the entry VALID and most recently used, the joined reads answered, and with one a trigger. -/
theorem prefetchArrived_eq (e : PfIx) (x : PfEntry) (j : List Tag) (d : Lanes) (s v : State)
    (hv : v = j.foldl (answerJoined d)
      { s with
        pf :=
          { entries := s.pf.entries.set e (some { x with state := .valid d })
            recency := s.pf.recency.filter (· != e) ++ [e] } }) :
    prefetchArrived e x j d s = if j = [] then v else trigger x.line x.window v := by
  subst hv
  simp only [prefetchArrived, List.isEmpty_iff]
  rfl

/-- R107: after the joined reads of a STALE entry are answered, the entry is EMPTY and least recently used. -/
theorem emptyPf_answerJoins {s : State} (h : RecencyWhole s) (e : PfIx) (d : Lanes) (j : List Tag) :
    emptyPf [e] (answerJoins d j s) =
      (answerJoins d j s).setPf
        { entries := s.pf.entries.set e none, recency := e :: s.pf.recency.filter (· != e) } := by
  have same : (answerJoins d j s).pf = s.pf := (frame_answerJoins d j s).same .pf
  have whole : RecencyWhole (answerJoins d j s) := by rw [RecencyWhole, same]; exact h
  rw [emptyPf_eq whole, same]

/-! ### The tracker's entry (R121, R127) -/

/-- An operation that leaves the tracker alone may as well come after an entry is put. -/
theorem IgnoresTracker.putEntry {f : State → State} {s : State} (h : IgnoresTracker f) (kept : (f s).trk = s.trk)
    (m : MemTag) (y : TrackerEntry) : putEntry m y (f s) = f (putEntry m y s) := by
  rw [Machine.putEntry, kept]
  exact (h s _).symm

theorem ignoresTracker_answerJoined (d : Lanes) (t : Tag) : IgnoresTracker fun s => answerJoined d s t := fun s x => by
  have same : readOf (s.setTrk x) t = readOf s t := rfl
  simp only [answerJoined, same]
  split
  · exact ignoresTracker_answerRead _ s x
  · rfl

theorem ignoresTracker_answerJoins (d : Lanes) (j : List Tag) : IgnoresTracker (answerJoins d j) :=
  .foldl (ignoresTracker_answerJoined d) j

theorem ignoresTracker_fallBack (t : Tag) : IgnoresTracker (fallBack t) := fun s x => by
  have same : readOf (s.setTrk x) t = readOf s t := rfl
  simp only [fallBack, same]
  split
  · exact ((ignoresTracker_offer _ _).comp (ignoresTracker_putRead _)) s x
  · rfl

theorem ignoresTracker_fallBackAll (j : List Tag) : IgnoresTracker (fallBackAll j) :=
  .foldl (f := fun u t => fallBack t u) ignoresTracker_fallBack j

theorem ignoresTracker_prefetchArrived (e : PfIx) (x : PfEntry) (j : List Tag) (d : Lanes) :
    IgnoresTracker (prefetchArrived e x j d) := by
  have answered : IgnoresTracker fun s => answerJoins d j (markMru e (putPf e (some { x with state := .valid d }) s)) :=
    (ignoresTracker_answerJoins d j).comp (g := fun s => markMru e (putPf e _ s)) fun _ _ => rfl
  unfold prefetchArrived
  split
  · exact answered
  · exact (ignoresTracker_trigger x.line x.window).comp answered

section PutEntry

variable (m : MemTag) (y : TrackerEntry) (e : PfIx) (x : PfEntry) (j : List Tag) (d : Lanes) (s : State)

theorem putEntry_prefetchArrived :
    putEntry m y (prefetchArrived e x j d s) = prefetchArrived e x j d (putEntry m y s) :=
  (ignoresTracker_prefetchArrived e x j d).putEntry ((frame_prefetchArrived e x j d s).same .trk) m y

theorem putEntry_emptyPf_answerJoins :
    putEntry m y (emptyPf [e] (answerJoins d j s)) = emptyPf [e] (answerJoins d j (putEntry m y s)) :=
  congrArg (emptyPf [e])
    ((ignoresTracker_answerJoins d j).putEntry ((frame_answerJoins d j s).same .trk) m y)

theorem putEntry_fallBackAll_emptyPf :
    putEntry m y (fallBackAll j (emptyPf [e] s)) = fallBackAll j (emptyPf [e] (putEntry m y s)) :=
  (ignoresTracker_fallBackAll j).putEntry ((frame_fallBackAll j (emptyPf [e] s)).same .trk) m y

end PutEntry

/-! ### The report's event -/

/-- R125, R122, R126: command `c` makes an ISSUED prefetch with `n` ticks left give up, whatever its attempts count,
and leaves the entry as `y`. -/
def PrefetchGivesUp (s : State) (m : MemTag) (n : Nat) (c : Instr) (y : TrackerEntry) : Prop :=
  c = .fault m ∧ y = .free ∨ c = .defer m ∧ y = .free ∨
    c = .responseTimerExpiry m ∧ n ≤ 1 ∧ y = .late (16 * s.cfg.responseTimeout.toNat)

section Event

variable {s : State} {m : MemTag} {e : PfIx} {op : MemOp} {a n : Nat}

/-- R122: a prefetch's DEFER is a give-up at any attempts count. -/
theorem takeDefer_prefetch (he : entryAt s m = .issued { origin := .prefetch e, op := op } a n) :
    takeDefer m s = giveUp m .free { origin := .prefetch e, op := op } .deferLimit (a + 1) s := by
  simp [takeDefer, he, deferIssued, MemRequest.isPrefetch]

theorem exec_prefetchDone (d : Lanes) (hr : s.inReset = false)
    (he : entryAt s m = .issued { origin := .prefetch e, op := op } a n) :
    exec (.done m d) s =
      .next (finishEvent s (quietTest (putEntry m .free (prefetchDone e d (s.setWires Wires.idle))))) := by
  rw [exec_done_issued d hr he, doneIssued, settle, finishEvent_setWires]
  rfl

theorem exec_prefetchGivesUp {c : Instr} {y : TrackerEntry} (hr : s.inReset = false)
    (he : entryAt s m = .issued { origin := .prefetch e, op := op } a n) (h : PrefetchGivesUp s m n c y) :
    exec c s = .next (finishEvent s (quietTest (putEntry m y (prefetchLost e (s.setWires Wires.idle))))) := by
  have given : ∃ cause k,
      exec c s = .next (giveUp m y { origin := .prefetch e, op := op } cause k (s.setWires Wires.idle)) := by
    obtain ⟨rfl, rfl⟩ | ⟨rfl, rfl⟩ | ⟨rfl, due, rfl⟩ := h
    · exact ⟨_, _, exec_givesUp hr he (.inl ⟨rfl, rfl, rfl, rfl⟩)⟩
    · exact ⟨_, _, (event_outsideReset (takeDefer m) hr).trans
        (congrArg _ (takeDefer_prefetch (s := s.setWires Wires.idle) he))⟩
    · exact ⟨_, _, exec_givesUp hr he (.inr (.inr ⟨rfl, due, rfl, rfl, rfl⟩))⟩
  obtain ⟨cause, k, event⟩ := given
  rw [event, giveUp, settle, finishEvent_setWires]
  rfl

end Event

/-- Settles O40: DONE is reported to the entry by its state (`prefetchDone_pending`, `prefetchDone_stale`), a give-up to
either alike (`prefetchLost_joined`), and the tracker's entry may be put before the report. -/
theorem prefetchOutcomes : Obligations.PrefetchOutcomes := by
  refine ⟨fun s u m d e op a n x c y hr he hx outcome hu => ?_,
    fun d s t => ⟨answerJoined_unheld d, fun r => answerJoined_held (r := r) d⟩⟩
  have hx0 : pfAt (s.setWires Wires.idle) e = some x := hx
  have put : putEntry m y (s.setWires Wires.idle) = u := hu.symm
  have pf : u.pf = s.pf := by rw [hu]
  have whole : RecencyWhole s → RecencyWhole u := fun h => by rwa [RecencyWhole, pf]
  have freed : c = .done m d → y = .free := by
    rintro rfl
    simpa using outcome
  refine ⟨fun j v hc pending hv => ?_, fun recency j gone hgone => ⟨fun hc stale => ?_, fun hc joined tags => ?_⟩⟩
  · rw [hc, exec_prefetchDone d hr he, prefetchDone_pending d hx0 pending, ← freed hc, putEntry_prefetchArrived, put,
      prefetchArrived_eq e x j d u v (pf ▸ hv)]
  · rw [hc, exec_prefetchDone d hr he, prefetchDone_stale d hx0 stale, ← freed hc, putEntry_emptyPf_answerJoins, put,
      emptyPf_answerJoins (whole recency), pf, hgone]
    rfl
  · have givesUp : PrefetchGivesUp s m n c y := outcome.resolve_left fun done => hc done.1
    have apart : TagsApart (emptyPf [e] u) := by rw [hu]; exact tags.2.1.1
    rw [exec_prefetchGivesUp hr he givesUp, prefetchLost_joined hx0 joined, putEntry_fallBackAll_emptyPf, put,
      fallBackAll_eq apart, emptyPf_eq (whole recency), pf, hgone]
    rfl

end Sys2Proof.Machine
end

section
/-! PROOFS. The responses the tracker takes, and a re-issue granted (O30 to O35). -/

namespace Sys2Proof.Machine

set_option Elab.async false

/-! ### A re-issue (R124) -/

/-- R143: only the ready orders change where a request leaves one. -/
theorem withdraw_eq (c : RequestClass) (r : OfferedRequest) (s : State) :
    withdraw c r s = s.setArb (withdraw c r s).arb := by
  cases c <;> rfl

theorem withdraw_mreqReady (c : RequestClass) (r : OfferedRequest) (s : State) :
    (withdraw c r s).arb.mreqReady = s.arb.mreqReady := by
  cases c <;> rfl

theorem chooseFrom_setWires (s : State) (w : Wires) (cs : List RequestClass) :
    chooseFrom (s.setWires w) cs = chooseFrom s cs := by
  induction cs with
  | nil => rfl
  | cons c rest ih =>
    have order : readyOrder (s.setWires w) c = readyOrder s c := rfl
    have free : freeCount (s.setWires w) = freeCount s := rfl
    simp only [chooseFrom, order, free, ih]

/-- R145: the arbiter's choice does not look at the wires. -/
theorem winner_setWires (s : State) (w : Wires) : winner (s.setWires w) = winner s :=
  chooseFrom_setWires s w (grantOrder s)

/-- R148: with MREQ_READY high the winner leaves its ready order and is granted. -/
theorem exec_grant_winner {s : State} {c : RequestClass} {r : OfferedRequest} (hr : s.inReset = false)
    (ready : s.arb.mreqReady = true) (won : winner s = some (c, r)) :
    exec .grant s = .next (grantRequest r (withdraw c r (s.setWires Wires.idle))) := by
  refine (event_outsideReset grantStep hr).trans (congrArg _ ?_)
  simp only [grantStep, State.setWires_arb, ready, if_true, winner_setWires, won]

theorem grantReissue_offered {s : State} {m : MemTag} {req : MemRequest} {a : Nat}
    (he : entryAt s m = .backoffOffered req a) : grantReissue m s = send m req a s := by
  simp only [grantReissue, he]

/-- Settles O30: the winner is withdrawn (`withdraw_eq`) and its request sent again (`grantReissue_offered`). -/
theorem grantReissuesUnchanged : Obligations.GrantReissuesUnchanged := by
  intro s c m req a hr ready won he
  have he : entryAt (withdraw c (.reissue m) (s.setWires Wires.idle)) m = .backoffOffered req a := by
    rw [withdraw_eq]
    exact he
  refine ⟨send m req a (withdraw c (.reissue m) (s.setWires Wires.idle)), ?_, ?_, ?_, ?_, fun d other => ?_⟩
  · rw [exec_grant_winner hr ready won, grantRequest, grantReissue_offered he]
  · rw [withdraw_eq]
    rfl
  · exact (readyOrder_withdraw c c _ _).trans (if_pos rfl)
  · exact (withdraw_mreqReady c _ _).trans ready
  · exact (readyOrder_withdraw c d _ _).trans (if_neg other.symm)

/-! ### A response by its entry's state (R120) -/

/-- R120: command `c` is a response of a defined kind under memory tag `m`. -/
def IsResponse (m : MemTag) (d : Lanes) (c : Instr) : Prop := c = .done m d ∨ c = .defer m ∨ c = .fault m

/-- R131: an entry that waits for no response: FREE, or in BACKOFF. -/
def NoneAwaited (x : TrackerEntry) : Prop :=
  x = .free ∨ (∃ req a n, x = .backoffWaiting req a n) ∨ ∃ req a, x = .backoffOffered req a

section Response

variable {s : State} {m : MemTag} {d : Lanes} {c : Instr}

/-- R129: for a LATE entry each kind is absorbed. -/
theorem exec_response_late {n : Nat} (hr : s.inReset = false) (he : entryAt s m = .late n) (hc : IsResponse m d c) :
    exec c s = .next (absorb m (s.setWires Wires.idle)) := by
  have he : entryAt (s.setWires Wires.idle) m = .late n := he
  obtain rfl | rfl | rfl := hc
  · refine (event_outsideReset (takeDone m d) hr).trans (congrArg _ ?_)
    simp only [takeDone, he]
  · refine (event_outsideReset (takeDefer m) hr).trans (congrArg _ ?_)
    simp only [takeDefer, he]
  · refine (event_outsideReset (takeFault m) hr).trans (congrArg _ ?_)
    simp only [takeFault, he]

/-- R131: for an entry that waits for none each kind is stray. -/
theorem exec_response_stray (hr : s.inReset = false) (he : NoneAwaited (entryAt s m)) (hc : IsResponse m d c) :
    exec c s = .next (stray m (s.setWires Wires.idle)) := by
  have he : NoneAwaited (entryAt (s.setWires Wires.idle) m) := he
  obtain rfl | rfl | rfl := hc
  · refine (event_outsideReset (takeDone m d) hr).trans (congrArg _ ?_)
    obtain he | ⟨_, _, _, he⟩ | ⟨_, _, he⟩ := he <;> simp only [takeDone, he]
  · refine (event_outsideReset (takeDefer m) hr).trans (congrArg _ ?_)
    obtain he | ⟨_, _, _, he⟩ | ⟨_, _, he⟩ := he <;> simp only [takeDefer, he]
  · refine (event_outsideReset (takeFault m) hr).trans (congrArg _ ?_)
    obtain he | ⟨_, _, _, he⟩ | ⟨_, _, he⟩ := he <;> simp only [takeFault, he]

end Response

/-! ### Absorbed and dropped responses (R129, R131, R188) -/

theorem bumpCount_eq (n : Byte) : bumpCount n = if n = 255 then 255 else n + 1 := by
  unfold bumpCount
  split
  · assumption
  · rfl

theorem absorb_eq (m : MemTag) (s : State) :
    absorb m s =
      { s with
        trk :=
          { s.trk with
            entries := s.trk.entries.set m .free
            lateCount := if s.trk.lateCount = 255 then 255 else s.trk.lateCount + 1 }
        irq := { s.irq with status := s.irq.status ||| 4 } } := by
  rw [← bumpCount_eq]
  rfl

/-- R132: the capture holds its first error. -/
theorem offerMemoryError_eq (k : MemoryError) (m : MemTag) (s : State) :
    offerMemoryError k m s =
      s.setTrk { s.trk with capture := some (s.trk.capture.getD { kind := k, tag := m }) } := by
  unfold offerMemoryError
  split
  · next empty => rw [empty]; rfl
  · next held => rw [held, Option.getD_some, ← held]; rfl

/-- Settles O32: the response is absorbed (`exec_response_late`), which `absorb_eq` spells out. -/
theorem lateResponseAbsorbed : Obligations.LateResponseAbsorbed := by
  intro s m d n c hr he hc
  rw [exec_response_late hr he hc, absorb_eq]
  rfl

/-- Settles O33: a stray response (`exec_response_stray`) and an undefined one are offered to the capture alike
(`offerMemoryError_eq`). -/
theorem strayResponseDropped : Obligations.StrayResponseDropped := by
  intro s m d c k hr h
  have dropped : exec c s = .next (setIrqBit .proto (offerMemoryError k m (s.setWires Wires.idle))) := by
    obtain ⟨he, hc, rfl⟩ | ⟨rfl, rfl⟩ := h
    · exact exec_response_stray hr he hc
    · exact event_outsideReset (badResponse m) hr
  rw [dropped, offerMemoryError_eq]
  rfl

/-! ### A DEFER within the retry limit (R122, R123) -/

theorem isPrefetch_eq_false {req : MemRequest} (h : ∀ e, req.origin ≠ .prefetch e) : req.isPrefetch = false := by
  unfold MemRequest.isPrefetch
  split
  · next e origin => exact absurd origin (h e)
  all_goals rfl

theorem deferIssued_within {s : State} {req : MemRequest} {a : Nat} (m : MemTag)
    (other : ∀ e, req.origin ≠ .prefetch e) (limit : a ≤ s.cfg.retryLimit.toNat) :
    deferIssued m req a s = putEntry m (.backoffWaiting req a (backoffTicks s.cfg.backoffBase a)) s := by
  simp [deferIssued, isPrefetch_eq_false other, Nat.not_lt.2 limit]

/-- Settles O34: the entry is ISSUED, and within the limit it backs off (`deferIssued_within`). -/
theorem deferBacksOff : Obligations.DeferBacksOff := by
  intro s m req a n hr he other limit
  have he : entryAt (s.setWires Wires.idle) m = .issued req a n := he
  refine (event_outsideReset (takeDefer m) hr).trans (congrArg _ ?_)
  simp only [takeDefer, he, deferIssued_within (s := s.setWires Wires.idle) m other limit]
  rfl

/-! ### The answers of a demand read (R87, R88) -/

section Report

variable {s : State} {t : Tag} {r : ReadRecord} (op : MemOp)

theorem reportDone_demand (d : Lanes) (held : readOf s t = some r) :
    reportDone { origin := .demand t, op := op } d s = afterAnswer r (.rdataOk t (takeLanes r.span.mask d)) s :=
  answerJoined_held d held

theorem reportGiveUp_demand (cause : LossCause) (a : Nat) (held : readOf s t = some r) :
    reportGiveUp { origin := .demand t, op := op } cause a s = afterAnswer r (.rdataError r.tag .memory) s := by
  simp only [reportGiveUp, readLost, held]
  exact answerRead_eq s rfl

end Report

/-- Settles O31: DONE is reported to the read, which it answers (`reportDone_demand`). -/
theorem doneAnswersDemandRead : Obligations.DoneAnswersDemandRead := by
  intro s m d t op a n r hr he held
  obtain rfl := readOf_tag held
  rw [exec_done_issued d hr he, doneIssued, settle, finishEvent_setWires,
    reportDone_demand (s := s.setWires Wires.idle) op d held]
  rfl

/-- Settles O35: each give-up (`exec_givesUp`) is reported to the read, which it answers (`reportGiveUp_demand`). -/
theorem giveUpAnswersDemandRead : Obligations.GiveUpAnswersDemandRead := by
  intro s m t op a n k r c y cause hr he held givesUp
  rw [exec_givesUp hr he givesUp, giveUp, settle, finishEvent_setWires,
    reportGiveUp_demand (s := s.setWires Wires.idle) op cause k held]
  rfl

end Sys2Proof.Machine
end

section
/-! PROOFS. The arbiter's choice: when drain is promoted (O26), the winner of a grant event (O27), and grant events without a grant (O25). -/

namespace Sys2Proof.Machine

set_option Elab.async false

/-! ### Promotion (R146) -/

theorem isWaitDeps_iff (r : ReadRecord) : r.isWaitDeps = true ↔ ∃ deps, r.state = .waitDeps deps := by
  unfold ReadRecord.isWaitDeps
  split <;> simp_all

theorem waitedLong_iff (s : State) :
    waitedLong s = true ↔ ∃ n, promotionInput s = some n ∧ s.cfg.promotionTime.toNat ≤ n := by
  cases h : promotionInput s <;> simp [waitedLong, h]

/-- Settles O26: each test of `promoted` is one of the six conditions (`isWaitDeps_iff`, `isHeld_iff`,
`waitedLong_iff`). -/
theorem promotionConditions : Obligations.PromotionConditions := by
  intro s
  simp only [promoted, Bool.or_eq_true, decide_eq_true_eq, Bool.not_eq_true', List.isEmpty_eq_false_iff,
    List.any_eq_true, bne_iff_ne, isWaitDeps_iff, isHeld_iff, waitedLong_iff, or_assoc]

/-! ### Eligibility and the FREE count (R144, R118) -/

theorem isFree_eq (x : TrackerEntry) : x.isFree = (x == .free) := by
  cases x <;> rfl

theorem grantable_reissue (n : Nat) (c : RequestClass) (m : MemTag) : grantable n c (.reissue m) = true := rfl

/-- A request that is no re-issue is a first issue, which needs FREE entries by its class. -/
theorem grantable_first {r : OfferedRequest} (first : ∀ m, r ≠ .reissue m) (n : Nat) (c : RequestClass) :
    grantable n c r = decide (grantable.needed c ≤ n) := by
  cases r with
  | reissue m => exact absurd rfl (first m)
  | drainHead => rfl
  | read t => rfl
  | direct => rfl
  | prefetch e => rfl

theorem needed_le_iff (n : Nat) (c : RequestClass) :
    grantable.needed c ≤ n ↔ (c = .demand ∨ c = .drain) ∧ 1 ≤ n ∨ c = .prefetch ∧ 5 ≤ n := by
  cases c <;> simp [grantable.needed]

theorem grantable_iff (n : Nat) (c : RequestClass) (r : OfferedRequest) :
    grantable n c r = true ↔
      (∃ m, r = .reissue m) ∨ (c = .demand ∨ c = .drain) ∧ 1 ≤ n ∨ c = .prefetch ∧ 5 ≤ n := by
  by_cases again : ∃ m, r = .reissue m
  · obtain ⟨m, rfl⟩ := again
    simp [grantable_reissue]
  · have first : ∀ m, r ≠ .reissue m := not_exists.1 again
    rw [grantable_first first, decide_eq_true_eq, needed_le_iff, or_iff_right again]

theorem freeCount_eq (s : State) :
    freeCount s = ((List.finRange 16).filter fun m => entryAt s m == .free).length := by
  simp only [freeCount, allMemTags, isFree_eq]

/-! ### The winner (R145) -/

theorem grantOrder_eq {s : State} {a b : RequestClass}
    (order : promoted s = false ∧ a = .demand ∧ b = .drain ∨ promoted s = true ∧ a = .drain ∧ b = .demand) :
    grantOrder s = [a, b, .prefetch] := by
  obtain ⟨hp, rfl, rfl⟩ | ⟨hp, rfl, rfl⟩ := order <;> simp [grantOrder, hp]

section Choice

variable {s : State} {c : RequestClass}

/-- The first class has an eligible request. -/
theorem chooseFrom_found {r : OfferedRequest} (rest : List RequestClass)
    (h : (readyOrder s c).find? (grantable (freeCount s) c) = some r) : chooseFrom s (c :: rest) = some (c, r) := by
  simp only [chooseFrom, h]

/-- The first class has no eligible request. -/
theorem chooseFrom_passes (rest : List RequestClass)
    (h : (readyOrder s c).find? (grantable (freeCount s) c) = none) : chooseFrom s (c :: rest) = chooseFrom s rest := by
  simp only [chooseFrom, h]

end Choice

/-- Settles O27: a class without an eligible request is passed over (`chooseFrom_passes`), the first one with such a
request has the winner (`chooseFrom_found`). -/
theorem winnerFollowsGrantOrder : Obligations.WinnerFollowsGrantOrder := by
  refine ⟨⟨grantable_iff, freeCount_eq⟩, fun s a b order => ?_⟩
  rw [winner, grantOrder_eq order]
  refine ⟨fun r found => chooseFrom_found _ found, fun r noA found => ?_, fun r noA noB found => ?_,
    fun noA noB noP => ?_⟩
  · rw [chooseFrom_passes _ noA, chooseFrom_found _ found]
  · rw [chooseFrom_passes _ noA, chooseFrom_passes _ noB, chooseFrom_found (c := .prefetch) _ found]
  · rw [chooseFrom_passes _ noA, chooseFrom_passes _ noB, chooseFrom_passes (c := .prefetch) _ noP, chooseFrom]

/-! ### Grant events without a grant (R141, R180) -/

theorem grantStep_idle {s : State} (h : s.arb.mreqReady = false ∨ winner s = none) : grantStep s = s := by
  cases ready : s.arb.mreqReady with
  | false => simp [grantStep, ready]
  | true =>
    have none : winner s = none := h.resolve_left (by simp [ready])
    simp [grantStep, none]

/-- Settles O25: the two level commands put the level in reset too, and a grant event without a grant changes nothing
(`grantStep_idle`). -/
theorem readyGatesGrants : Obligations.ReadyGatesGrants := by
  refine ⟨fun s => ⟨rfl, rfl⟩, fun s hr h => ?_⟩
  have idle : (s.setWires Wires.idle).arb.mreqReady = false ∨ winner (s.setWires Wires.idle) = none := by
    rwa [winner_setWires]
  exact (event_outsideReset grantStep hr).trans (congrArg _ (grantStep_idle idle))

end Sys2Proof.Machine
end

section
/-! PROOFS. What a grant of a first issue sends and changes: reads (O28), drain and DIRECT pieces (O29). -/

namespace Sys2Proof.Machine

set_option Elab.async false

/-! ### The request sent (R117, R148) -/

/-- R117: the winner, withdrawn, is sent under the lowest-numbered FREE tag. -/
theorem sendFirst_withdraw {s : State} {m : MemTag} (free : firstFree s = some m) (c : RequestClass)
    (r : OfferedRequest) (req : MemRequest) :
    sendFirst req (withdraw c r (s.setWires Wires.idle)) = (afterSend m req s).setArb (withdraw c r s).arb := by
  have free : firstFree (withdraw c r (s.setWires Wires.idle)) = some m := by
    rw [withdraw_eq]
    exact free
  simp only [sendFirst, free]
  cases c <;> rfl

theorem rd_sendFirst (req : MemRequest) (s : State) : (sendFirst req s).rd = s.rd := (frame_sendFirst req s).same .rd

/-- The record of a tag in the list is replaced. -/
theorem putRead_mem {s : State} {r q : ReadRecord} (hr : r ∈ s.rd.reads) (ht : q.tag = r.tag) :
    putRead q s = s.setRd { reads := replaceRead q s.rd.reads } := by
  have held : (readOf s q.tag).isSome = true := by
    rw [readOf_isSome, decide_eq_true_eq, ht]
    exact List.mem_map_of_mem hr
  obtain ⟨p, hp⟩ := Option.isSome_iff_exists.1 held
  exact putRead_old hp

/-- A granted request is sent and its record replaced. -/
theorem putRead_sendFirst {s : State} {r q : ReadRecord} (hr : r ∈ s.rd.reads) (ht : q.tag = r.tag)
    (req : MemRequest) :
    putRead q (sendFirst req s) = (sendFirst req s).setRd { reads := replaceRead q s.rd.reads } := by
  rw [putRead_mem (r := r) (by rwa [rd_sendFirst]) ht, rd_sendFirst]

/-! ### Reads (R86, R93, R104) -/

section Read

variable {s : State}

theorem grantRead_held {t : Tag} {r : ReadRecord} (held : readOf s t = some r) :
    grantRead t s =
      readTrigger r ((sendFirst { origin := .demand t, op := .mrd r.span } s).setRd
        { reads := replaceRead { r with state := .issued } s.rd.reads }) := by
  simp only [grantRead, held]
  rw [putRead_sendFirst (q := { r with state := .issued }) (readOf_mem held) rfl]

theorem grantDirect_read {r : ReadRecord} (released : s.rd.reads.find? (fun q => q.released.isSome) = some r)
    (ha : r.access = .read) : grantDirect s = sendFirst { origin := .direct r.tag 0, op := .mrd r.span } s := by
  simp only [grantDirect, released, ha]

theorem grantPrefetch_requested {e : PfIx} {x : PfEntry} {j : List Tag} (hx : pfAt s e = some x)
    (hs : x.state = .requested j) :
    grantPrefetch e s =
      putPf e (some { x with state := .pending j })
        (sendFirst { origin := .prefetch e, op := .mrd { addr := lineAddr x.line, size := 64 } } s) := by
  simp only [grantPrefetch, hx, hs]

end Read

/-- Settles O28: the winner is granted (`exec_grant_winner`), by its kind (`grantRead_held`, `grantDirect_read`,
`grantPrefetch_requested`), and its MRD sent under the lowest FREE tag (`sendFirst_withdraw`). -/
theorem grantSendsReads : Obligations.GrantSendsReads := by
  intro s m hr ready free
  refine ⟨fun t r won held => ?_, fun r won released ha => ?_, fun e x j won hx hs => ?_⟩
  all_goals rw [exec_grant_winner hr ready won, grantRequest]
  · rw [grantRead_held (s := withdraw .demand (.read t) (s.setWires Wires.idle)) held, sendFirst_withdraw free]
    rfl
  · rw [grantDirect_read (s := withdraw .demand .direct (s.setWires Wires.idle)) released ha, sendFirst_withdraw free]
    rfl
  · rw [grantPrefetch_requested (s := withdraw .prefetch (.prefetch e) (s.setWires Wires.idle)) hx hs,
      sendFirst_withdraw free]
    rfl

/-! ### Pieces (R56, R94) -/

/-- Whether one of the pieces is WAITING, so that a next one is offered. -/
theorem any_waiting_iff (ps : List Piece) :
    (ps.any fun q => q.outcome == .waiting) = true ↔ ∃ q ∈ ps, q.outcome = .waiting := by
  simp

theorem mark_issued {x : Slot} {ps : List Piece} (k : Nat) (h : x.phase = .draining ps) :
    x.mark k .issued = { x with phase := .draining (setOutcome ps k .issued) } := by
  simp [Slot.mark, pieces_of_draining h]

theorem slotWaiting_putSlot {x : Slot} {ps : List Piece} (h : x.phase = .draining ps) (i : SlotIx) (s : State) :
    slotWaiting (putSlot i (some x) s) i = true ↔ ∃ q ∈ ps, q.outcome = .waiting := by
  simp only [slotWaiting, slotAt_putSlot, if_true, h, any_waiting_iff]

section DrainPiece

variable {s : State} {i : SlotIx} {x : Slot} {ps : List Piece} {k : Nat} {p : Piece}

/-- R56: piece `k` of slot `i` is sent and ISSUED. -/
def drainPieceSent (i : SlotIx) (x : Slot) (ps : List Piece) (k : Nat) (p : Piece) (s : State) : State :=
  putSlot i (some { x with phase := .draining (setOutcome ps k .issued) })
    (sendFirst { origin := .drain i (Fin.ofNat 8 k), op := pieceWrite x.line x.data p } s)

theorem grantDrainHead_issuing (hi : issuing s = some i) (hx : slotAt s i = some x) (hp : x.phase = .draining ps)
    (first : firstWaiting ps = some (k, p)) : grantDrainHead s = grantPiece i x k p s := by
  simp only [grantDrainHead, hi, hx, pieces_of_draining hp, first]

theorem grantPiece_eq (hp : x.phase = .draining ps) :
    grantPiece i x k p s =
      if ∃ q ∈ setOutcome ps k .issued, q.outcome = .waiting then
        offer .drain .drainHead (drainPieceSent i x ps k p s)
      else drainTest (drainPieceSent i x ps k p s) := by
  have further (v : State) :
      slotWaiting (putSlot i (some { x with phase := .draining (setOutcome ps k .issued) }) v) i = true ↔
        ∃ q ∈ setOutcome ps k .issued, q.outcome = .waiting :=
    slotWaiting_putSlot rfl i v
  simp only [grantPiece, mark_issued k hp, further, drainPieceSent]

end DrainPiece

section DirectPiece

variable {s : State} {r : ReadRecord} {d : Lanes} {ps : List Piece} {lost : Bool} {k : Nat} {p : Piece}

/-- R94: piece `k` of the released DIRECT write is sent and ISSUED. -/
def directPieceSent (r : ReadRecord) (d : Lanes) (ps : List Piece) (lost : Bool) (k : Nat) (p : Piece) (s : State) :
    State :=
  (sendFirst { origin := .direct r.tag (Fin.ofNat 8 k), op := pieceWrite r.span.line d p } s).setRd
    { reads := replaceRead { r with state := .directWait (.released (setOutcome ps k .issued)) lost } s.rd.reads }

theorem grantDirect_write (released : s.rd.reads.find? (fun q => q.released.isSome) = some r)
    (ha : r.access = .write d) (hs : r.state = .directWait (.released ps) lost)
    (first : firstWaiting ps = some (k, p)) : grantDirect s = grantDirectPiece r d ps k p s := by
  have pieces : r.released = some ps := by simp only [ReadRecord.released, hs]
  simp only [grantDirect, released, ha, pieces, first]

theorem grantDirectPiece_eq (hr : r ∈ s.rd.reads) (hs : r.state = .directWait (.released ps) lost) :
    grantDirectPiece r d ps k p s =
      if ∃ q ∈ setOutcome ps k .issued, q.outcome = .waiting then
        offer .demand .direct (directPieceSent r d ps lost k p s)
      else directPieceSent r d ps lost k p s := by
  have flag : r.lost = lost := by simp only [ReadRecord.lost, hs]
  simp only [grantDirectPiece, flag, any_waiting_iff, directPieceSent]
  rw [putRead_sendFirst (q := { r with state := .directWait (.released (setOutcome ps k .issued)) lost }) hr rfl]

end DirectPiece

/-- Settles O29: the first WAITING piece of the issuing slot (`grantDrainHead_issuing`) or of the DIRECT write
(`grantDirect_write`) is sent under the lowest FREE tag (`sendFirst_withdraw`), and what follows turns on whether a
further one is WAITING (`grantPiece_eq`, `grantDirectPiece_eq`). -/
theorem grantSendsPieces : Obligations.GrantSendsPieces := by
  rintro s m k p ps _ hr ready free first rfl
  refine ⟨fun i x u won hi hx hp hu => ?_, fun r d lost u won released hs ha hu => ?_⟩
  all_goals rw [exec_grant_winner hr ready won, grantRequest]
  · have sent : drainPieceSent i x ps k p (withdraw .drain .drainHead (s.setWires Wires.idle)) = u := by
      rw [drainPieceSent, sendFirst_withdraw free, hu]
      rfl
    rw [grantDrainHead_issuing (s := withdraw .drain .drainHead (s.setWires Wires.idle)) hi hx hp first,
      grantPiece_eq hp, sent]
    refine ⟨fun last => ?_, fun further => ?_⟩
    · rw [if_neg fun ⟨q, hq, waiting⟩ => last q hq waiting]
    · rw [if_pos further]
      rfl
  · have sent : directPieceSent r d ps lost k p (withdraw .demand .direct (s.setWires Wires.idle)) = u := by
      rw [directPieceSent, sendFirst_withdraw free, hu]
      rfl
    rw [grantDirect_write (s := withdraw .demand .direct (s.setWires Wires.idle)) released ha hs first,
      grantDirectPiece_eq (s := withdraw .demand .direct (s.setWires Wires.idle))
        (List.mem_of_find?_eq_some released) hs, sent]
    refine ⟨fun last => ?_, fun further => ?_⟩
    · rw [if_neg fun ⟨q, hq, waiting⟩ => last q hq waiting]
    · rw [if_pos further]
      rfl

end Sys2Proof.Machine
end

section
/-! PROOFS. The QUIET condition and the quiesce controller's laws (O57): what each change leaves of them. -/

namespace Sys2Proof.Machine

set_option Elab.async false

/-! ### The QUIET condition once it holds (R154) -/

/-- R154: the QUIET condition, unit by unit. -/
theorem quietCondition_iff_units (s : State) :
    quietCondition s = true ↔
      (∀ i, slotAt s i = none) ∧ (∀ m, (entryAt s m).writing = false) ∧ ∀ r ∈ s.rd.reads, r.access = .read := by
  simp only [quietCondition_iff, writing_eq_false]
  exact and_congr_right fun _ => and_comm

theorem slotAt_of_quiet {s : State} (h : quietCondition s = true) (i : SlotIx) : slotAt s i = none :=
  ((quietCondition_iff_units s).1 h).1 i

theorem writing_of_quiet {s : State} (h : quietCondition s = true) (m : MemTag) : (entryAt s m).writing = false :=
  ((quietCondition_iff_units s).1 h).2.1 m

theorem access_of_quiet {s : State} {r : ReadRecord} (h : quietCondition s = true) (hr : r ∈ s.rd.reads) :
    r.access = .read :=
  ((quietCondition_iff_units s).1 h).2.2 r hr

theorem quietCondition_of_frame {bs : List Block} {s t : State} (f : Frame bs s t)
    (hb : ∀ b ∈ bs, b ∉ [Block.buf, .rd, .trk] := by decide) : quietCondition t = quietCondition s := by
  have buf : t.buf = s.buf := f .buf fun hm => hb _ hm (by decide)
  have rd : t.rd = s.rd := f .rd fun hm => hb _ hm (by decide)
  have trk : t.trk = s.trk := f .trk fun hm => hb _ hm (by decide)
  have live : slotLive t = slotLive s := by
    funext i
    simp only [slotLive, slotAt, buf]
  simp only [quietCondition, noSlotLive, live, rd, trk]

/-- `t` meets the QUIET condition if `s` does. -/
def KeepsQuiet (s t : State) : Prop := quietCondition s = true → quietCondition t = true

theorem KeepsQuiet.refl (s : State) : KeepsQuiet s s := id

theorem KeepsQuiet.trans {s t u : State} (h : KeepsQuiet s t) (k : KeepsQuiet t u) : KeepsQuiet s u := k ∘ h

theorem KeepsQuiet.foldl {α : Type} (f : State → α → State) (hf : ∀ s a, KeepsQuiet s (f s a)) (l : List α)
    (s : State) : KeepsQuiet s (l.foldl f s) := by
  induction l generalizing s with
  | nil => exact .refl s
  | cons a l ih => exact (hf s a).trans (ih (f s a))

/-- A change that fills no EMPTY slot, starts no write toward memory, and takes no DIRECT write. -/
theorem KeepsQuiet.of_units {s t : State} (slots : ∀ i, slotAt s i = none → slotAt t i = none)
    (entries : ∀ m, (entryAt s m).writing = false → (entryAt t m).writing = false)
    (reads : (∀ r ∈ s.rd.reads, r.access = .read) → ∀ r ∈ t.rd.reads, r.access = .read) : KeepsQuiet s t := fun h => by
  rw [quietCondition_iff_units] at h ⊢
  obtain ⟨hs, he, hr⟩ := h
  exact ⟨fun i => slots i (hs i), fun m => entries m (he m), reads hr⟩

/-- An operation on other blocks. -/
theorem KeepsQuiet.of_frame {bs : List Block} {s t : State} (f : Frame bs s t)
    (hb : ∀ b ∈ bs, b ∉ [Block.buf, .rd, .trk] := by decide) : KeepsQuiet s t :=
  (quietCondition_of_frame f hb).trans

/-- An operation on the tracker's entries that starts no write. -/
theorem KeepsQuiet.of_entries {bs : List Block} {s t : State} (f : Frame bs s t)
    (entries : ∀ m, (entryAt s m).writing = false → (entryAt t m).writing = false)
    (hb : ∀ b ∈ bs, b ∉ [Block.buf, .rd] := by decide) : KeepsQuiet s t := by
  have buf : t.buf = s.buf := f .buf fun hm => hb _ hm (by decide)
  have rd : t.rd = s.rd := f .rd fun hm => hb _ hm (by decide)
  exact .of_units (by simp [slotAt, buf]) entries (by simp [rd])

/-- An operation that does nothing while every slot is EMPTY. -/
theorem KeepsQuiet.of_noSlotLive {s t : State} (h : (∀ i, slotAt s i = none) → t = s) : KeepsQuiet s t :=
  fun quiet => by rwa [h (slotAt_of_quiet quiet)]

/-! ### The units -/

/-- A record in the place of a pending one with the same access. -/
theorem keepsQuiet_putRead {s : State} {r q : ReadRecord} (hq : q ∈ s.rd.reads) (ha : r.access = q.access) :
    KeepsQuiet s (putRead r s) := by
  have f := frame_putRead r s
  have buf : (putRead r s).buf = s.buf := f.same .buf
  have trk : (putRead r s).trk = s.trk := f.same .trk
  refine .of_units (by simp [slotAt, buf]) (by simp [entryAt, trk]) fun reads p hp => ?_
  obtain rfl | old := mem_putRead hp
  · exact ha.trans (reads q hq)
  · exact reads p old

theorem keepsQuiet_answerRead (a : Response) (s : State) : KeepsQuiet s (answerRead a s) := by
  refine .of_units (fun i empty => ?_) (fun _ => id) fun reads r hr => reads r (List.mem_filter.1 hr).1
  have kind : slotKind (answerRead a s) i = slotKind s i := slotKind_dropBlocker a.tag (pushResponse a s) i
  simpa [slotKind, empty] using kind

theorem keepsQuiet_putEntry (m : MemTag) {x : TrackerEntry} (hx : x.writing = false) (s : State) :
    KeepsQuiet s (putEntry m x s) := by
  refine .of_entries (frame_putEntry m x s) fun k hk => ?_
  rw [entryAt_putEntry]
  split
  · exact hx
  · exact hk

/-- A change of the tracker that leaves its entries as they are. -/
theorem keepsQuiet_setTrk {s : State} {x : Tracker} (h : x.entries = s.trk.entries) : KeepsQuiet s (s.setTrk x) :=
  .of_entries (frame_setTrk s x) fun m hm => by simpa [entryAt, h] using hm

/-- R84: a read that falls back stays a read. -/
theorem keepsQuiet_fallBackAll (ts : List Tag) (s : State) : KeepsQuiet s (fallBackAll ts s) := by
  refine .foldl _ (fun u t => ?_) ts s
  unfold fallBack; split
  · next r hr =>
    exact (keepsQuiet_putRead (r := { r with state := .waitGrant }) (readOf_mem hr) rfl).trans
      (.of_frame (frame_offer _ _ _))
  · exact .refl u

theorem keepsQuiet_spoilEntry (e : PfIx) (s : State) : KeepsQuiet s (spoilEntry e s) := by
  unfold spoilEntry; split
  · exact .refl s
  · split
    · exact .of_frame (frame_emptyPf _ s)
    · exact ((KeepsQuiet.of_frame (frame_withdraw _ _ s)).trans (.of_frame (frame_emptyPf _ _))).trans
        (keepsQuiet_fallBackAll _ _)
    · exact .of_frame (frame_putPf _ _ s)
    · exact .refl s

theorem keepsQuiet_invalidate (s : State) : KeepsQuiet s (invalidate s) :=
  (KeepsQuiet.foldl _ (fun u e => keepsQuiet_spoilEntry e u) allPf s).trans (.of_frame (frame_setPf _ _))

/-- With every slot EMPTY the drain engine has nothing to begin. -/
theorem drainTest_noSlotLive {s : State} (h : ∀ i, slotAt s i = none) : drainTest s = s :=
  drainTest_noneEligible (List.find?_eq_none.2 fun e _ => by simp [eligible, h])

theorem keepsQuiet_drainTest (s : State) : KeepsQuiet s (drainTest s) := .of_noSlotLive drainTest_noSlotLive

/-! ### Grants -/

/-- R117: a read sent toward memory. -/
theorem keepsQuiet_sendFirst {req : MemRequest} (hw : req.op.isWrite = false) (s : State) :
    KeepsQuiet s (sendFirst req s) := by
  unfold sendFirst; split
  · next m _ =>
    exact (keepsQuiet_putEntry m (x := .issued req 0 s.cfg.responseTimeout.toNat) hw s).trans
      (.of_frame (frame_setWires _ _))
  · exact .refl s

theorem keepsQuiet_grantDrainHead (s : State) : KeepsQuiet s (grantDrainHead s) := by
  refine .of_noSlotLive fun empty => ?_
  unfold grantDrainHead; split
  · rfl
  · next i _ => simp [empty i]

theorem keepsQuiet_grantRead (t : Tag) (s : State) : KeepsQuiet s (grantRead t s) := by
  unfold grantRead; split
  · next r hr =>
    have pending : r ∈ (sendFirst { origin := .demand t, op := .mrd r.span } s).rd.reads := by
      rw [rd_sendFirst]
      exact readOf_mem hr
    exact ((keepsQuiet_sendFirst rfl s).trans
      (keepsQuiet_putRead (r := { r with state := .issued }) pending rfl)).trans (.of_frame (frame_readTrigger _ _))
  · exact .refl s

/-- R93: with no DIRECT write pending, the DIRECT request is a read's. -/
theorem keepsQuiet_grantDirect (s : State) : KeepsQuiet s (grantDirect s) := fun quiet => by
  unfold grantDirect; split
  · exact quiet
  · next r hr =>
    rw [access_of_quiet quiet (List.mem_of_find?_eq_some hr)]
    exact keepsQuiet_sendFirst rfl s quiet

theorem keepsQuiet_grantPrefetch (e : PfIx) (s : State) : KeepsQuiet s (grantPrefetch e s) := by
  unfold grantPrefetch; split
  · exact .refl s
  · split
    · exact (keepsQuiet_sendFirst rfl s).trans (.of_frame (frame_putPf _ _ _))
    all_goals exact .refl s

/-- R124: a re-issue sends the entry's own request. -/
theorem keepsQuiet_grantReissue (m : MemTag) (s : State) : KeepsQuiet s (grantReissue m s) := fun quiet => by
  unfold grantReissue; split
  · next req a he =>
    have read : req.op.isWrite = false := by simpa [he, TrackerEntry.writing] using writing_of_quiet quiet m
    exact ((keepsQuiet_putEntry m (x := .issued req a s.cfg.responseTimeout.toNat) read s).trans
      (.of_frame (frame_setWires _ _))) quiet
  all_goals exact quiet

theorem keepsQuiet_grantStep (s : State) : KeepsQuiet s (grantStep s) := by
  unfold grantStep; split
  · split
    · next c r _ =>
      refine (KeepsQuiet.of_frame (frame_withdraw c r s)).trans ?_
      unfold grantRequest; split
      · exact keepsQuiet_grantDrainHead _
      · exact keepsQuiet_grantRead _ _
      · exact keepsQuiet_grantDirect _
      · exact keepsQuiet_grantPrefetch _ _
      · exact keepsQuiet_grantReissue _ _
    · exact .refl s
  · exact .refl s

/-! ### The tracker's reports -/

/-- R58: with every slot EMPTY a report on a drain piece finds none. -/
theorem keepsQuiet_pieceDone (i : SlotIx) (k : Fin 8) (s : State) : KeepsQuiet s (pieceDone i k s) :=
  .of_noSlotLive fun empty => by simp [pieceDone, empty i]

theorem keepsQuiet_pieceLost (i : SlotIx) (k : Fin 8) (cause : LossCause) (a : Nat) (s : State) :
    KeepsQuiet s (pieceLost i k cause a s) :=
  .of_noSlotLive fun empty => by simp [pieceLost, empty i]

theorem keepsQuiet_answerJoined (d : Lanes) (s : State) (t : Tag) : KeepsQuiet s (answerJoined d s t) := by
  unfold answerJoined; split
  · exact keepsQuiet_answerRead _ s
  · exact .refl s

theorem keepsQuiet_answerJoins (d : Lanes) (ts : List Tag) (s : State) : KeepsQuiet s (answerJoins d ts s) :=
  .foldl _ (keepsQuiet_answerJoined d) ts s

theorem keepsQuiet_prefetchDone (e : PfIx) (d : Lanes) (s : State) : KeepsQuiet s (prefetchDone e d s) := by
  unfold prefetchDone; split
  · exact .refl s
  · split
    · unfold prefetchArrived
      dsimp only
      have answered := fun x joins => ((KeepsQuiet.of_frame (frame_putPf e x s)).trans
        (.of_frame (frame_markMru e _))).trans (keepsQuiet_answerJoins d joins _)
      split
      · exact answered _ _
      · exact (answered _ _).trans (.of_frame (frame_trigger _ _ _))
    · exact (keepsQuiet_answerJoins _ _ s).trans (.of_frame (frame_emptyPf _ _))
    all_goals exact .refl s

theorem keepsQuiet_prefetchLost (e : PfIx) (s : State) : KeepsQuiet s (prefetchLost e s) := by
  have lost := fun ts => (KeepsQuiet.of_frame (frame_emptyPf [e] s)).trans (keepsQuiet_fallBackAll ts _)
  unfold prefetchLost; split
  · exact .refl s
  · split
    · exact lost _
    · exact lost _
    all_goals exact .refl s

/-- R93, R95: with no DIRECT write pending, the report answers a read. -/
theorem keepsQuiet_directReport (t : Tag) (k : Fin 8) (f : ReadRecord → Response) (o : PieceOutcome) (s : State) :
    KeepsQuiet s (directReport t k f o s) := fun quiet => by
  unfold directReport; split
  · exact quiet
  · next r hr =>
    rw [access_of_quiet quiet (readOf_mem hr)]
    exact keepsQuiet_answerRead _ s quiet

theorem keepsQuiet_reportDone (req : MemRequest) (d : Lanes) (s : State) : KeepsQuiet s (reportDone req d s) := by
  unfold reportDone; split
  · exact keepsQuiet_pieceDone _ _ s
  · exact keepsQuiet_answerJoined d s _
  · exact keepsQuiet_directReport _ _ _ _ s
  · exact keepsQuiet_prefetchDone _ d s

theorem keepsQuiet_reportGiveUp (req : MemRequest) (cause : LossCause) (a : Nat) (s : State) :
    KeepsQuiet s (reportGiveUp req cause a s) := by
  unfold reportGiveUp; split
  · exact keepsQuiet_pieceLost _ _ _ _ s
  · unfold readLost; split
    · exact keepsQuiet_answerRead _ s
    · exact .refl s
  · exact keepsQuiet_directReport _ _ _ _ s
  · exact keepsQuiet_prefetchLost _ s

theorem keepsQuiet_offerMemoryError (k : MemoryError) (m : MemTag) (s : State) :
    KeepsQuiet s (offerMemoryError k m s) := by
  unfold offerMemoryError; split
  · exact keepsQuiet_setTrk rfl
  · exact .refl s

/-- R131, R188: a stray response and one of undefined kind, neither of which touches an entry. -/
theorem keepsQuiet_memoryError (k : MemoryError) (m : MemTag) (s : State) :
    KeepsQuiet s (setIrqBit .proto (offerMemoryError k m s)) :=
  (keepsQuiet_offerMemoryError k m s).trans (.of_frame (frame_setIrqBit _ _))

theorem keepsQuiet_absorb (m : MemTag) (s : State) : KeepsQuiet s (absorb m s) := by
  have counted := fun (u : State) n => keepsQuiet_setTrk (s := u) (x := { u.trk with lateCount := n }) rfl
  exact ((keepsQuiet_putEntry m (x := .free) rfl s).trans (counted _ _)).trans (.of_frame (frame_setIrqBit .late _))

/-! ### Timers -/

theorem keepsQuiet_holdExpires (i : SlotIx) (s : State) : KeepsQuiet s (holdExpires i s) :=
  .of_noSlotLive fun empty => by simp [holdExpires, empty i]

/-- R124: the re-issue offered is the entry's own request. -/
theorem keepsQuiet_backoffExpires (m : MemTag) (s : State) : KeepsQuiet s (backoffExpires m s) := fun quiet => by
  unfold backoffExpires; split
  · next req a n he =>
    have read : req.op.isWrite = false := by simpa [he, TrackerEntry.writing] using writing_of_quiet quiet m
    split
    · exact ((keepsQuiet_putEntry m (x := .backoffOffered req a) read s).trans (.of_frame (frame_offer _ _ _))) quiet
    · exact quiet
  all_goals exact quiet

theorem keepsQuiet_reclaimExpires (m : MemTag) (s : State) : KeepsQuiet s (reclaimExpires m s) := by
  unfold reclaimExpires; split
  · split
    · exact keepsQuiet_putEntry m (x := .free) rfl s
    · exact .refl s
  all_goals exact .refl s

theorem tick_writing (x : TrackerEntry) : x.tick.writing = x.writing := by
  cases x <;> rfl

theorem keepsQuiet_countTick (s : State) : KeepsQuiet s (countTick s) := by
  refine .of_units (fun i empty => ?_) (fun m hm => ?_) fun reads => reads
  · rw [slotAt_countTick, empty, Option.map_none]
  · rw [entryAt_countTick, tick_writing, hm]

/-! ### The quiesce controller -/

theorem keepsQuiet_applyCommit (s : State) : KeepsQuiet s (applyCommit s) :=
  ((((KeepsQuiet.of_frame (frame_setWin s _)).trans (keepsQuiet_invalidate _)).trans
    (.of_frame (frame_setQuiesce _ _))).trans (.of_frame (frame_setResult _ _))).trans (.of_frame (frame_setIrqBit _ _))

theorem keepsQuiet_enterQuiet (s : State) : KeepsQuiet s (enterQuiet s) := by
  have quiet : KeepsQuiet s (s.setQuiesce { s.quiesce with state := .quiet }) := .of_frame (frame_setQuiesce s _)
  unfold enterQuiet
  dsimp only
  split
  · have committed := quiet.trans (keepsQuiet_applyCommit _)
    split
    · exact committed.trans (.of_frame (frame_setQuiesce _ _))
    · exact committed.trans (.of_frame (frame_returnToRun _))
  · split
    · exact quiet.trans (.of_frame (frame_setQuiesce _ _))
    · exact quiet.trans (.of_frame (frame_returnToRun _))

/-- R44, R98, R139: the forced reset leaves no slot, no DIRECT access and no request ISSUED or in BACKOFF. -/
theorem quietCondition_forced (s : State) :
    quietCondition (forceTracker (emptyReady (forceUnits (discardSlots s)))) = true := by
  refine (quietCondition_iff_units _).2 ⟨discardSlots_empty s, fun m => ?_,
    by simp [forceTracker, emptyReady, forceUnits]⟩
  have forced : ∀ n (x : TrackerEntry), (x.force n).writing = false := fun n x => by cases x <;> rfl
  simp [entryAt, forceTracker, forced]

end Sys2Proof.Machine
end

section
/-! PROOFS. Every event keeps the quiesce controller's laws and, in QUIET, the QUIET condition (O57). -/

namespace Sys2Proof.Machine

set_option Elab.async false

/-! ### Keeping the laws -/

/-- `t` keeps the quiesce controller's laws if `s` does. -/
def KeepsQuiesce (s t : State) : Prop := QuiesceSafe s → QuiesceSafe t

theorem KeepsQuiesce.refl (s : State) : KeepsQuiesce s s := id

theorem KeepsQuiesce.trans {s t u : State} (h : KeepsQuiesce s t) (k : KeepsQuiesce t u) : KeepsQuiesce s u := k ∘ h

theorem KeepsQuiesce.foldl {α : Type} (f : State → α → State) (hf : ∀ s a, KeepsQuiesce s (f s a)) (l : List α)
    (s : State) : KeepsQuiesce s (l.foldl f s) := by
  induction l generalizing s with
  | nil => exact .refl s
  | cons a l ih => exact (hf s a).trans (ih (f s a))

/-- An operation that leaves the controller alone and, in QUIET, keeps the QUIET condition. -/
theorem KeepsQuiesce.of_quiet {bs : List Block} {s t : State} (f : Frame bs s t)
    (k : s.quiesce.state = .quiet → KeepsQuiet s t) (hb : Block.quiesce ∉ bs := by decide) : KeepsQuiesce s t := by
  have same : t.quiesce = s.quiesce := f .quiesce hb
  rintro ⟨law, quiet⟩
  refine ⟨same ▸ law, fun inQuiet => ?_⟩
  rw [same] at inQuiet
  exact k inQuiet (quiet inQuiet)

/-- One that keeps the QUIET condition in every state. -/
theorem KeepsQuiesce.of_keepsQuiet {bs : List Block} {s t : State} (f : Frame bs s t) (k : KeepsQuiet s t)
    (hb : Block.quiesce ∉ bs := by decide) : KeepsQuiesce s t :=
  .of_quiet f (fun _ => k) hb

/-- An operation on blocks that neither the laws nor the QUIET condition read. -/
theorem KeepsQuiesce.of_frame {bs : List Block} {s t : State} (f : Frame bs s t)
    (hb : ∀ b ∈ bs, b ∉ [Block.buf, .rd, .trk, .quiesce] := by decide) : KeepsQuiesce s t :=
  .of_keepsQuiet f
    (.of_frame f fun b hm hn => hb b hm (List.mem_append_left [Block.quiesce] hn))
    fun hm => hb _ hm (by decide)

/-! ### The quiesce controller (R152 to R156) -/

/-- A requester is present (R152). -/
def QuiesceController.requested (q : QuiesceController) : Prop := q.commitPending = true ∨ q.drainHeld = true

theorem quiesceLaw_settled (q : QuiesceController) : QuiesceLaw q.settled := by
  cases held : q.drainHeld <;> simp [QuiesceLaw, QuiesceController.settled, held]

theorem quiesceLaw_run {q : QuiesceController} (h : QuiesceLaw q) (run : q.state = .run) :
    q = { state := .run, commitPending := false, drainHeld := false, drnAck := false } := by
  obtain ⟨state, commitPending, drainHeld, drnAck⟩ := q
  obtain rfl : state = .run := run
  simpa [QuiesceLaw, and_assoc] using h

theorem quiesceLaw_quiet {q : QuiesceController} (h : QuiesceLaw q) (quiet : q.state = .quiet) :
    q = { state := .quiet, commitPending := false, drainHeld := true, drnAck := true } := by
  obtain ⟨state, commitPending, drainHeld, drnAck⟩ := q
  obtain rfl : state = .quiet := quiet
  obtain ⟨-, ack, requests⟩ := h
  obtain ⟨rfl, rfl⟩ : drainHeld = true ∧ commitPending = false := requests rfl
  obtain rfl : drnAck = true := ack.2 rfl
  rfl

theorem quiesceLaw_quiescing {q : QuiesceController} (h : QuiesceLaw q) (quiescing : q.state = .quiescing) :
    q.requested ∧ q.drnAck = false := by
  obtain ⟨run, ack, -⟩ := h
  have busy : ¬ (q.commitPending = false ∧ q.drainHeld = false) := fun idle => by
    simpa [quiescing] using run.2 idle
  exact ⟨or_iff_not_imp_left.2 (by simpa using busy), Bool.eq_false_iff.2 fun high => by
    simpa [quiescing] using ack.1 high⟩

/-- In QUIESCING the laws ask for a requester, and for DRN_ACK low. -/
theorem quiesceSafe_quiescing {s : State} (state : s.quiesce.state = .quiescing) (request : s.quiesce.requested)
    (ack : s.quiesce.drnAck = false) : QuiesceSafe s := by
  refine ⟨⟨?_, by simp [state, ack], by simp [state]⟩, by simp [QuietHolds, state]⟩
  obtain h | h := request <;> simp [state, h]

theorem applyCommit_quiesce (s : State) : (applyCommit s).quiesce = { s.quiesce with commitPending := false } := by
  have kept : (invalidate (s.setWin { s.win with active := s.win.staged })).quiesce = s.quiesce :=
    (frame_invalidate _).same .quiesce
  rw [← kept]
  rfl

theorem enterQuiet_quiesce (s : State) : (enterQuiet s).quiesce = s.quiesce.settled := by
  cases pending : s.quiesce.commitPending with
  | false => rw [enterQuiet_idle pending]
  | true =>
    have committed := applyCommit_quiesce (s.setQuiesce { s.quiesce with state := .quiet })
    rw [enterQuiet_settles (if_pos pending) (congrArg QuiesceController.state committed)
      (congrArg QuiesceController.commitPending committed)]
    simp [committed, QuiesceController.settled]

theorem keepsQuiesce_quietTest (s : State) : KeepsQuiesce s (quietTest s) := fun h => by
  unfold quietTest; split
  · next passes =>
    obtain ⟨-, quiet⟩ := Bool.and_eq_true_iff.1 passes
    exact ⟨enterQuiet_quiesce s ▸ quiesceLaw_settled _, fun _ => keepsQuiet_enterQuiet s quiet⟩
  · exact h

/-- R153: with a requester present and DRN_ACK low the controller may leave RUN. -/
theorem quiesceSafe_quiesceStart {s : State} (request : s.quiesce.requested) (ack : s.quiesce.drnAck = false) :
    QuiesceSafe (quiesceStart s) := by
  have kept : (invalidate (sealAll s)).quiesce = s.quiesce :=
    ((frame_invalidate _).same .quiesce).trans ((frame_sealAll s).same .quiesce)
  refine keepsQuiesce_quietTest _ (quiesceSafe_quiescing rfl ?_ ?_)
  · rwa [← kept] at request
  · rwa [← kept] at ack

/-! ### The end of an event -/

/-- R3: in QUIET a request waits on the link. -/
theorem keepsQuiesce_examine (m : IReqMsg) (s : State) : KeepsQuiesce s (examine m s) :=
  .of_quiet (frame_examine m s) fun quiet => by
    rw [examine_stopped m ((acceptStopped_iff s).2 (.inl (by simp [quiet])))]
    exact .of_frame (frame_setHead _ s)

theorem keepsQuiesce_drainTest (s : State) : KeepsQuiesce s (drainTest s) :=
  .of_keepsQuiet (frame_drainTest s) (keepsQuiet_drainTest s)

theorem keepsQuiesce_finishEvent (s0 s : State) : KeepsQuiesce s (finishEvent s0 s) := by
  refine KeepsQuiesce.trans (t := reexamine s0 s) ?_ (keepsQuiesce_drainTest _)
  unfold reexamine; split
  · split
    · exact keepsQuiesce_examine _ s
    · exact .refl s
  · exact .refl s

theorem keepsQuiesce_present (msg : Option IReqMsg) (s : State) : KeepsQuiesce s (present msg s) := by
  unfold present; split
  · exact (keepsQuiesce_examine _ s).trans (keepsQuiesce_drainTest _)
  · exact .of_frame (frame_setHead none s)

theorem keepsQuiesce_settle (s0 s : State) : KeepsQuiesce s (settle s0 s) :=
  (keepsQuiesce_quietTest s).trans (keepsQuiesce_finishEvent s0 _)

/-! ### The tracker's reports and the timers -/

theorem keepsQuiesce_giveUp (m : MemTag) {after : TrackerEntry} (ha : after.writing = false) (req : MemRequest)
    (cause : LossCause) (a : Nat) (s : State) : KeepsQuiesce s (giveUp m after req cause a s) :=
  ((KeepsQuiesce.of_keepsQuiet (frame_reportGiveUp req cause a s) (keepsQuiet_reportGiveUp req cause a s)).trans
    (.of_keepsQuiet (frame_putEntry m after _) (keepsQuiet_putEntry m ha _))).trans (keepsQuiesce_settle s _)

theorem keepsQuiesce_absorb (m : MemTag) (s : State) : KeepsQuiesce s (absorb m s) :=
  .of_keepsQuiet (frame_absorb m s) (keepsQuiet_absorb m s)

theorem keepsQuiesce_stray (m : MemTag) (s : State) : KeepsQuiesce s (stray m s) :=
  .of_keepsQuiet (frame_stray m s) (keepsQuiet_memoryError .stray m s)

theorem keepsQuiesce_takeDone (m : MemTag) (d : Lanes) (s : State) : KeepsQuiesce s (takeDone m d s) := by
  unfold takeDone; split
  · next req _ _ _ =>
    exact ((KeepsQuiesce.of_keepsQuiet (frame_reportDone req d s) (keepsQuiet_reportDone req d s)).trans
      (.of_keepsQuiet (frame_putEntry m .free _) (keepsQuiet_putEntry m rfl _))).trans (keepsQuiesce_settle s _)
  · exact keepsQuiesce_absorb m s
  all_goals exact keepsQuiesce_stray m s

/-- R123: the request of an entry in BACKOFF is the one that was ISSUED. -/
theorem keepsQuiesce_takeDefer (m : MemTag) (s : State) : KeepsQuiesce s (takeDefer m s) := by
  unfold takeDefer; split
  · next req n _ he =>
    unfold deferIssued; split
    · exact keepsQuiesce_giveUp m rfl _ _ _ s
    · refine .of_keepsQuiet (frame_putEntry m _ s) fun quiet => ?_
      have read : req.op.isWrite = false := by
        simpa [he, TrackerEntry.writing] using writing_of_quiet quiet m
      exact keepsQuiet_putEntry m (x := .backoffWaiting req (n + 1) (backoffTicks s.cfg.backoffBase (n + 1))) read s
        quiet
  · exact keepsQuiesce_absorb m s
  all_goals exact keepsQuiesce_stray m s

theorem keepsQuiesce_takeFault (m : MemTag) (s : State) : KeepsQuiesce s (takeFault m s) := by
  unfold takeFault; split
  · exact keepsQuiesce_giveUp m rfl _ _ _ s
  · exact keepsQuiesce_absorb m s
  all_goals exact keepsQuiesce_stray m s

theorem keepsQuiesce_responseExpires (m : MemTag) (s : State) : KeepsQuiesce s (responseExpires m s) := by
  unfold responseExpires; split
  · split
    · exact keepsQuiesce_giveUp m rfl _ _ _ s
    · exact .refl s
  all_goals exact .refl s

theorem keepsQuiesce_backoffExpires (m : MemTag) (s : State) : KeepsQuiesce s (backoffExpires m s) :=
  .of_keepsQuiet (frame_backoffExpires m s) (keepsQuiet_backoffExpires m s)

theorem keepsQuiesce_reclaimExpires (m : MemTag) (s : State) : KeepsQuiesce s (reclaimExpires m s) :=
  .of_keepsQuiet (frame_reclaimExpires m s) (keepsQuiet_reclaimExpires m s)

theorem keepsQuiesce_holdExpires (i : SlotIx) (s : State) : KeepsQuiesce s (holdExpires i s) :=
  .of_keepsQuiet (frame_holdExpires i s) (keepsQuiet_holdExpires i s)

theorem keepsQuiesce_entryExpires (m : MemTag) (s : State) : KeepsQuiesce s (entryExpires m s) := by
  unfold entryExpires; split
  · exact keepsQuiesce_responseExpires m s
  · exact keepsQuiesce_backoffExpires m s
  · exact keepsQuiesce_reclaimExpires m s
  all_goals exact .refl s

theorem keepsQuiesce_tick (s : State) : KeepsQuiesce s (tick s) :=
  (KeepsQuiesce.of_keepsQuiet (frame_countTick s) (keepsQuiet_countTick s)).trans
    ((KeepsQuiesce.foldl _ (fun u i => keepsQuiesce_holdExpires i u) _ _).trans
      (.foldl _ (fun u m => keepsQuiesce_entryExpires m u) _ _))

/-! ### Resets -/

theorem forceQuiesce_quiesce (s : State) : (forceQuiesce s).quiesce = s.quiesce.settled := by
  unfold forceQuiesce
  dsimp only
  split <;> rfl

/-- R163, R195: the forced reset leaves the controller in QUIET or RUN, with nothing to write. -/
theorem quiesceSafe_takeDpResetForce (s : State) : QuiesceSafe (takeDpResetForce s) := by
  have kept : ∀ u, KeepsQuiet u (forceQuiesce u) := fun u => .of_frame (frame_forceQuiesce u)
  refine keepsQuiesce_finishEvent s _ ⟨?_, fun _ => kept _ (quietCondition_forced _)⟩
  rw [forceQuiesce_quiesce]
  exact quiesceLaw_settled _

theorem quiesceSafe_powerOn (held : Bool) (straps : BitVec 2) (drnReq : Bool) (s : State) :
    QuiesceSafe (powerOn held straps drnReq s) := by
  have running : ∀ u : State, u.quiesce = State.reset.quiesce → QuiesceSafe u := fun u h =>
    ⟨by simp [QuiesceLaw, h, State.reset], by simp [QuietHolds, h, State.reset]⟩
  unfold powerOn; split
  · exact running _ rfl
  · unfold resetEnds
    dsimp only
    split
    · exact quiesceSafe_quiesceStart (.inr rfl) rfl
    · exact running _ rfl

/-! ### The management port and the drain line -/

/-- R159: a COMMIT makes a requester, so that in QUIESCING it may wait, and in QUIET it is done at once. -/
theorem keepsQuiesce_startCommit {s : State} : KeepsQuiesce s (startCommit s) := fun h => by
  obtain ⟨law, holds⟩ := id h
  unfold startCommit
  dsimp only
  split
  · next run =>
    have ack : s.quiesce.drnAck = false := by rw [quiesceLaw_run law run]
    exact keepsQuiesce_finishEvent s _ (quiesceSafe_quiesceStart (.inl rfl) ack)
  · next quiescing =>
    exact quiesceSafe_quiescing quiescing (.inl rfl) (quiesceLaw_quiescing law quiescing).2
  · next quiet =>
    have pending : KeepsQuiet s (setResult .pending (s.setQuiesce { s.quiesce with commitPending := true })) :=
      (KeepsQuiet.of_frame (frame_setQuiesce s _)).trans (.of_frame (frame_setResult _ _))
    have same : (applyCommit (setResult .pending (s.setQuiesce { s.quiesce with commitPending := true }))).quiesce =
        s.quiesce := by
      rw [applyCommit_quiesce, quiesceLaw_quiet law quiet]
      rfl
    exact ⟨by rwa [same], fun _ => (pending.trans (keepsQuiet_applyCommit _)) (holds quiet)⟩

theorem keepsQuiesce_takeCommit (s : State) : KeepsQuiesce s (takeCommit s) := by
  unfold takeCommit; split
  · exact .of_frame (frame_setResult _ s)
  · split
    · exact keepsQuiesce_startCommit
    · exact .of_frame (frame_setResult _ s)

theorem keepsQuiesce_takeProtoClear (s : State) : KeepsQuiesce s (takeProtoClear s) := by
  have cleared := fun u : State => keepsQuiet_setTrk (s := u) (x := { u.trk with capture := none }) rfl
  exact .of_keepsQuiet (frame_takeProtoClear s)
    (((KeepsQuiet.of_frame (frame_setAcc s _)).trans (cleared _)).trans (.of_frame (frame_setResult .done _)))

theorem keepsQuiesce_runCommand (code : Byte) (s : State) : KeepsQuiesce s (runCommand code s) := by
  unfold runCommand; split
  · exact keepsQuiesce_takeCommit s
  · exact .of_frame (frame_takeDpReset s)
  · exact fun _ => quiesceSafe_takeDpResetForce s
  · exact .of_frame (frame_takeLogPop s)
  · exact .of_frame (frame_takeLogClearOvf s)
  · exact keepsQuiesce_takeProtoClear s
  · exact .of_frame (frame_setResult _ s)

theorem keepsQuiesce_writeReg (i v : Byte) (s : State) : KeepsQuiesce s (writeReg i v s).2 := by
  have range : ∀ lo hi (x : State → Thresholds),
      KeepsQuiesce s (takeRange lo hi v (fun t => t.setCfg (x t)) s).2 := by
    intro lo hi x
    unfold takeRange; split
    · exact .of_frame (frame_setCfg s _)
    · exact .refl s
  unfold writeReg; split
  · exact .of_frame (frame_takeStaged i v s)
  · split
    · exact range _ _ _
    · exact range _ _ _
    · exact range _ _ _
    · exact range _ _ _
    · exact .of_frame (frame_setPort s _)
    · exact .of_frame (frame_takeTimeoutHigh v s)
    · exact .of_frame (frame_setWin s _)
    · exact keepsQuiesce_runCommand v s
    · exact .of_frame (frame_setIrq s _)
    · exact .of_frame (frame_setIrq s _)
    · exact .refl s

theorem keepsQuiesce_portWrite (follows : Bool) (i v : Byte) (s : State) :
    KeepsQuiesce s (portWrite follows i v s) := by
  have data : ∀ u, KeepsQuiesce u (dataByte v u) := by
    intro u
    unfold dataByte; split
    · unfold takeByte
      dsimp only
      split
      · exact (keepsQuiesce_writeReg _ v u).trans (.of_frame (frame_ackByte _))
      · exact (keepsQuiesce_writeReg _ v u).trans (.of_frame (frame_nackByte _))
    all_goals exact .of_frame (frame_noAck u)
  unfold portWrite; split
  · exact data s
  · exact (KeepsQuiesce.of_frame (frame_beginWrite i s)).trans (data _)

/-- R157: DRN_REQ held high makes a requester; in QUIET it is held already. -/
theorem keepsQuiesce_drainRises (s : State) : KeepsQuiesce s (drainRises s) := fun h => by
  obtain ⟨law, -⟩ := id h
  unfold drainRises
  dsimp only
  split
  · next run =>
    have ack : s.quiesce.drnAck = false := by rw [quiesceLaw_run law run]
    exact keepsQuiesce_finishEvent s _ (quiesceSafe_quiesceStart (.inr rfl) ack)
  · next quiescing =>
    exact quiesceSafe_quiescing quiescing (.inr rfl) (quiesceLaw_quiescing law quiescing).2
  · next quiet =>
    have held : s.quiesce.drainHeld = true := by rw [quiesceLaw_quiet law quiet]
    have same : s.setQuiesce { s.quiesce with drainHeld := true } = s := by
      rw [← held]
      rfl
    rwa [same]

/-- R156: with no commit pending, DRN_REQ low leaves no requester, and the controller returns to RUN. -/
theorem quiesceSafe_returnToRun {s : State} (idle : s.quiesce.commitPending = false) :
    QuiesceSafe (returnToRun (s.setQuiesce { s.quiesce with drainHeld := false })) :=
  ⟨by simp [QuiesceLaw, returnToRun, idle], by simp [QuietHolds, returnToRun]⟩

theorem keepsQuiesce_drainFalls (s : State) : KeepsQuiesce s (drainFalls s) := fun h => by
  obtain ⟨law, -⟩ := id h
  have ends := fun idle => keepsQuiesce_finishEvent s _ (quiesceSafe_returnToRun (s := s) idle)
  unfold drainFalls
  dsimp only
  split
  · next run =>
    have free : s.quiesce.drainHeld = false := by rw [quiesceLaw_run law run]
    have same : s.setQuiesce { s.quiesce with drainHeld := false } = s := by
      rw [← free]
      rfl
    rwa [same]
  · next quiescing =>
    split
    · next pending =>
      exact quiesceSafe_quiescing quiescing (.inl pending) (quiesceLaw_quiescing law quiescing).2
    · next idle => exact ends (Bool.eq_false_iff.2 idle)
  · next quiet => exact ends (by rw [quiesceLaw_quiet law quiet])

/-! ### Commands and steps -/

theorem event_keepsQuiesce {s t : State} {f : State → State} (hf : ∀ u, KeepsQuiesce u (f u))
    (he : event s f = .next t) : KeepsQuiesce s t := by
  have idle : KeepsQuiesce s (s.setWires Wires.idle) := .of_frame (frame_setWires s _)
  unfold event at he
  dsimp only at he
  split at he <;> obtain rfl := Host.Outcome.next.inj he
  · exact idle
  · exact idle.trans (hf _)

theorem keepsQuiesce_setReady (level : Bool) (s : State) : KeepsQuiesce s (setReady level s) :=
  (KeepsQuiesce.of_frame (frame_setWires s Wires.idle)).trans (.of_frame (frame_setArb _ _))

/-- Every command keeps the quiesce controller's laws. -/
theorem exec_keepsQuiesce {c : Instr} {s t : State} (h : exec c s = .next t) : KeepsQuiesce s t := by
  cases c with
  | requestPresented msg => exact event_keepsQuiesce (keepsQuiesce_present msg) h
  | responseSent => exact event_keepsQuiesce (fun u => .of_frame (frame_sendResponse u)) h
  | holdTimerExpiry i => exact event_keepsQuiesce (keepsQuiesce_holdExpires i) h
  | mreqReadyRise => exact Host.Outcome.next.inj h ▸ keepsQuiesce_setReady true s
  | mreqReadyFall => exact Host.Outcome.next.inj h ▸ keepsQuiesce_setReady false s
  | grant => exact event_keepsQuiesce (fun u => .of_keepsQuiet (frame_grantStep u) (keepsQuiet_grantStep u)) h
  | done m d => exact event_keepsQuiesce (keepsQuiesce_takeDone m d) h
  | defer m => exact event_keepsQuiesce (keepsQuiesce_takeDefer m) h
  | fault m => exact event_keepsQuiesce (keepsQuiesce_takeFault m) h
  | badResp m =>
    exact event_keepsQuiesce
      (fun u => .of_keepsQuiet (frame_badResponse m u) (keepsQuiet_memoryError .badResp m u)) h
  | responseTimerExpiry m => exact event_keepsQuiesce (keepsQuiesce_responseExpires m) h
  | backoffTimerExpiry m => exact event_keepsQuiesce (keepsQuiesce_backoffExpires m) h
  | reclaimTimerExpiry m => exact event_keepsQuiesce (keepsQuiesce_reclaimExpires m) h
  | drnReqRise => exact event_keepsQuiesce keepsQuiesce_drainRises h
  | drnReqFall => exact event_keepsQuiesce keepsQuiesce_drainFalls h
  | commit f => exact event_keepsQuiesce (keepsQuiesce_portWrite f _ _) h
  | dpReset f => exact event_keepsQuiesce (keepsQuiesce_portWrite f _ _) h
  | dpResetForce f => exact event_keepsQuiesce (keepsQuiesce_portWrite f _ _) h
  | logPop f => exact event_keepsQuiesce (keepsQuiesce_portWrite f _ _) h
  | logClearOvf f => exact event_keepsQuiesce (keepsQuiesce_portWrite f _ _) h
  | protoClear f => exact event_keepsQuiesce (keepsQuiesce_portWrite f _ _) h
  | unknownCommand code f => exact event_keepsQuiesce (keepsQuiesce_portWrite f _ code) h
  | interruptStatusWrite v f => exact event_keepsQuiesce (keepsQuiesce_portWrite f _ v) h
  | interruptMaskWrite v f => exact event_keepsQuiesce (keepsQuiesce_portWrite f _ v) h
  | responseTimeoutLowWrite v f => exact event_keepsQuiesce (keepsQuiesce_portWrite f _ v) h
  | responseTimeoutHighWrite v f => exact event_keepsQuiesce (keepsQuiesce_portWrite f _ v) h
  | stagedTableWrite i v f => exact event_keepsQuiesce (keepsQuiesce_portWrite f i v) h
  | registerWrite i v f => exact event_keepsQuiesce (keepsQuiesce_portWrite f i v) h
  | indexPointerWrite a i => exact event_keepsQuiesce (fun u => .of_frame (frame_pointerWrite a i u)) h
  | logHeadRead a more => exact event_keepsQuiesce (fun u => .of_frame (frame_portRead a more u)) h
  | powerOnReset held straps d =>
    exact Host.Outcome.next.inj h ▸ fun _ => quiesceSafe_powerOn held straps d s
  | ageCountTick => exact event_keepsQuiesce keepsQuiesce_tick h
  | readTransfer a more => exact event_keepsQuiesce (fun u => .of_frame (frame_portRead a more u)) h

/-- R158: DRN_ACK is high in QUIET only, where DRN_REQ is held and the QUIET condition holds. -/
theorem drnAck_drained {s : State} (h : QuiesceSafe s) (ack : s.quiesce.drnAck = true) :
    s.quiesce.drainHeld = true ∧ acceptStopped s = true ∧ quietCondition s = true := by
  obtain ⟨⟨-, ackIff, held⟩, holds⟩ := h
  have quiet := ackIff.1 ack
  exact ⟨(held quiet).1, (acceptStopped_iff s).2 (.inl (by simp [quiet])), holds quiet⟩

/-- Settles O57: each command's event keeps the laws (`exec_keepsQuiesce`), a step is the event of the front command,
or idles, and under the laws DRN_ACK high means drained (`drnAck_drained`). -/
theorem stepKeepsQuiesceLaws : Obligations.StepKeepsQuiesceLaws := by
  refine ⟨fun s t h hs => ?_, fun s h ack => ?_⟩
  · unfold step at hs
    split at hs
    · exact Host.Outcome.next.inj hs ▸ h
    · next c rest _ => exact (KeepsQuiesce.of_frame (frame_setPending s rest)).trans (exec_keepsQuiesce hs) h
  · obtain ⟨held, stopped, quiet⟩ := drnAck_drained h ack
    obtain ⟨empty, -, noWrite⟩ := (quietCondition_iff s).1 quiet
    exact ⟨held, stopped, empty, fun m req busy => isWrite_eq_false.2 (noWrite m req busy)⟩

end Sys2Proof.Machine
end

section
/-! PROOFS. The table commit (O41) and the drain line (O42): what leaves RUN, what ends QUIESCING and QUIET. -/

namespace Sys2Proof.Machine

set_option Elab.async false

/-! ### Invalidation and seal-all, seen by the controller -/

theorem invalidated_invalidated {x y : PfEntry} (h : x.invalidated = some y) : y.invalidated = some y := by
  obtain ⟨line, window, state⟩ := x
  cases state with
  | valid d => cases h
  | requested joins => cases h
  | pending joins => cases h; rfl
  | stale joins => cases h; rfl

/-- R112: an invalidate request changes nothing where every entry is EMPTY or STALE. -/
theorem afterInvalidation_self {s : State} (h : ∀ e x, pfAt s e = some x → x.invalidated = some x) :
    afterInvalidation s = s := by
  have entry : ∀ e, (pfAt s e).bind PfEntry.invalidated = pfAt s e ∧ isEmptied s e = false ∧
      isRequested s e = false ∧ requestedJoins s e = [] := fun e => by
    cases hx : pfAt s e with
    | none => simp [isEmptied, isRequested, requestedJoins, hx]
    | some x =>
      have own := h e x hx
      obtain ⟨line, window, state⟩ := x
      cases state with
      | valid d => cases own
      | requested joins => cases own
      | pending joins => cases own
      | stale joins => simp [isEmptied, isRequested, requestedJoins, hx, own]
  simp only [forall_and] at entry
  obtain ⟨same, notEmptied, notRequested, noJoins⟩ := entry
  have entries : (Vector.ofFn fun e : PfIx => (s.pf.entries[e]).bind PfEntry.invalidated) = s.pf.entries :=
    entries_ext fun e => (Vector.getElem_ofFn e.isLt).trans (same e)
  have joins : (List.finRange 4).flatMap (requestedJoins s) = [] :=
    List.flatMap_eq_nil_iff.2 fun e _ => noJoins e
  have recency : s.pf.recency.filter (isEmptied s) ++ s.pf.recency.filter (fun e => !isEmptied s e) =
      s.pf.recency := by
    simp [notEmptied]
  have requests : (s.arb.prefetch.filter fun r =>
      (List.finRange 4).all fun e => !(isRequested s e && r == .prefetch e)) = s.arb.prefetch := by
    simp [notRequested]
  rw [afterInvalidation, joins, entries, recency, requests]
  exact afterFallBack_unheld (by simp)

/-- A second invalidation in the same event changes nothing. -/
theorem afterInvalidation_afterInvalidation (s : State) :
    afterInvalidation (afterInvalidation s) = afterInvalidation s := by
  refine afterInvalidation_self fun e y hy => ?_
  have entry : pfAt (afterInvalidation s) e = (pfAt s e).bind PfEntry.invalidated := Vector.getElem_ofFn e.isLt
  obtain ⟨x, -, hx⟩ := Option.bind_eq_some_iff.1 (entry.symm.trans hy)
  exact invalidated_invalidated hx

theorem frame_afterInvalidation (s : State) : Frame [.pf, .rd, .arb] s (afterInvalidation s) := by
  intro b hb
  cases b with
  | pf | rd | arb => exact absurd (by decide) hb
  | _ => rfl

theorem frame_afterSealAll (s : State) : Frame [.buf, .drain] s (afterSealAll s) := by
  intro b hb
  cases b with
  | buf | drain => exact absurd (by decide) hb
  | _ => simp only [Same, afterSealAll]

section
variable (s : State)

theorem afterInvalidation_setPort (x) : afterInvalidation (s.setPort x) = (afterInvalidation s).setPort x := rfl
theorem afterInvalidation_setWires (x) : afterInvalidation (s.setWires x) = (afterInvalidation s).setWires x := rfl
theorem afterInvalidation_setQuiesce (x) :
    afterInvalidation (s.setQuiesce x) = (afterInvalidation s).setQuiesce x := rfl
theorem afterSealAll_setPort (x) : afterSealAll (s.setPort x) = (afterSealAll s).setPort x := rfl
theorem afterSealAll_setWires (x) : afterSealAll (s.setWires x) = (afterSealAll s).setWires x := rfl
theorem afterSealAll_setQuiesce (x) : afterSealAll (s.setQuiesce x) = (afterSealAll s).setQuiesce x := rfl

end

theorem quietCondition_afterInvalidation (s : State) : quietCondition (afterInvalidation s) = quietCondition s := by
  have reads : (∀ r ∈ (afterInvalidation s).rd.reads, r.access = .read) ↔ ∀ r ∈ s.rd.reads, r.access = .read := by
    rw [afterInvalidation, afterFallBack_reads, List.forall_mem_map]
    refine forall₂_congr fun r _ => ?_
    split <;> rfl
  have buf : (afterInvalidation s).buf = s.buf := (frame_afterInvalidation s).same .buf
  have trk : (afterInvalidation s).trk = s.trk := (frame_afterInvalidation s).same .trk
  rw [Bool.eq_iff_iff, quietCondition_iff_units, quietCondition_iff_units, reads]
  simp only [slotAt, entryAt, buf, trk]

theorem slotAt_afterSealAll (s : State) (i : SlotIx) :
    slotAt (afterSealAll s) i = (slotAt s i).map fun x => if x.isFilling then { x with phase := .sealed } else x :=
  Vector.getElem_ofFn i.isLt

theorem slotLive_afterSealAll (s : State) (i : SlotIx) : slotLive (afterSealAll s) i = slotLive s i := by
  simp [slotLive, slotAt_afterSealAll]

theorem quietCondition_afterSealAll (s : State) : quietCondition (afterSealAll s) = quietCondition s := by
  have slots : (∀ i, slotAt (afterSealAll s) i = none) ↔ ∀ i, slotAt s i = none := by
    simp [slotAt_afterSealAll]
  have rd : (afterSealAll s).rd = s.rd := (frame_afterSealAll s).same .rd
  have trk : (afterSealAll s).trk = s.trk := (frame_afterSealAll s).same .trk
  rw [Bool.eq_iff_iff, quietCondition_iff_units, quietCondition_iff_units, slots, rd]
  simp only [entryAt, trk]

/-! ### The event's end -/

theorem TagsWhole.apart {s : State} (h : TagsWhole s) : TagsApart s := h.2.1.1

/-- With the slots EMPTY that were EMPTY and the fences outstanding that were, only acceptance may have resumed. -/
theorem waitEnded_sameUnits {s0 s : State} (live : ∀ i, slotLive s i = slotLive s0 i)
    (fence : s.fence = s0.fence) : waitEnded s0 s = (acceptStopped s0 && !acceptStopped s) := by
  have count : liveCount s = liveCount s0 := by rw [liveCount, liveCount, funext live]
  simp [waitEnded, count, fence]

theorem finishEvent_sameUnits {s0 s : State} (live : ∀ i, slotLive s i = slotLive s0 i) (fence : s.fence = s0.fence)
    (stopped : acceptStopped s0 = true → acceptStopped s = true) : finishEvent s0 s = drainTest s := by
  refine finishEvent_waits (.inr ?_)
  rw [waitEnded_sameUnits live fence]
  simpa using stopped

/-! ### The controller leaves RUN (R153) -/

/-- R153, R154: where the QUIET condition holds, the controller enters QUIET at once. -/
theorem quiesceStart_quiet {s : State} (apart : TagsApart s) (quiet : quietCondition s = true) :
    quiesceStart s = enterQuiet ((afterInvalidation s).setQuiesce { s.quiesce with state := .quiescing }) := by
  have sealed : sealAll s = s := sealAll_noSlotLive ((noSlotLive_iff s).2 (slotAt_of_quiet quiet))
  rw [quiesceStart, sealed, invalidate_eq apart]
  refine quietTest_passes rfl ?_
  rw [quietCondition_of_frame (frame_setQuiesce _ _), quietCondition_afterInvalidation, quiet]

/-- R155 without a pending commit. -/
theorem quiesceStart_idle {s : State} (apart : TagsApart s) (quiet : quietCondition s = true)
    (idle : s.quiesce.commitPending = false) :
    quiesceStart s = (afterInvalidation s).setQuiesce s.quiesce.settled := by
  rw [quiesceStart_quiet apart quiet]
  exact enterQuiet_idle (s := (afterInvalidation s).setQuiesce { s.quiesce with state := .quiescing }) idle

/-- R161: the state once a commit is applied, the controller apart. -/
def commitApplied (s : State) : State :=
  (((afterInvalidation s).setWin { s.win with active := s.win.staged }).setIrq
    { s.irq with status := s.irq.status ||| 16 }).setPort { s.port with result := .done }

theorem applyCommit_applied {s : State} (apart : TagsApart s) :
    applyCommit s = (commitApplied s).setQuiesce { s.quiesce with commitPending := false } :=
  applyCommit_eq apart

/-- R155, R161 with a pending commit, which invalidates once more, to no effect. -/
theorem quiesceStart_commit {s : State} (apart : TagsApart s) (quiet : quietCondition s = true)
    (pending : s.quiesce.commitPending = true) :
    quiesceStart s = (commitApplied s).setQuiesce s.quiesce.settled := by
  have apart' : TagsApart (afterInvalidation s) := by rwa [TagsApart, afterInvalidation, afterFallBack_tags]
  have entered := enterQuiet_commit (s := (afterInvalidation s).setQuiesce { s.quiesce with state := .quiescing })
    pending apart'
  rw [quiesceStart_quiet apart quiet, entered, afterInvalidation_setQuiesce, afterInvalidation_afterInvalidation]
  rfl

/-- R153: elsewhere the controller stands in QUIESCING, behind a seal-all and an invalidation. -/
theorem quiesceStart_busy {s : State} (apart : TagsApart s) (ages : AgesWhole s) (busy : quietCondition s = false) :
    quiesceStart s =
      (afterInvalidation (afterSealAll s)).setQuiesce { s.quiesce with state := .quiescing } := by
  have rd : (afterSealAll s).rd = s.rd := (frame_afterSealAll s).same .rd
  have apart' : TagsApart (afterSealAll s) := by rwa [TagsApart, rd]
  rw [quiesceStart, sealAll_eq ages, invalidate_eq apart']
  refine quietTest_fails (.inr ?_)
  rw [quietCondition_of_frame (frame_setQuiesce _ _), quietCondition_afterInvalidation, quietCondition_afterSealAll,
    busy]

/-- In QUIESCING only the drain engine's test ends the event. -/
theorem finishEvent_quiesceStart_busy {s0 s : State} (apart : TagsApart s) (ages : AgesWhole s)
    (busy : quietCondition s = false) (buf : s.buf = s0.buf) (fence : s.fence = s0.fence) :
    finishEvent s0 (quiesceStart s) =
      drainTest ((afterInvalidation (afterSealAll s)).setQuiesce { s.quiesce with state := .quiescing }) := by
  rw [quiesceStart_busy apart ages busy]
  have f := frame_afterInvalidation (afterSealAll s)
  have same : ((afterInvalidation (afterSealAll s)).setQuiesce { s.quiesce with state := .quiescing }).fence =
      s0.fence :=
    (((State.setQuiesce_fence _ _).trans (f.same .fence)).trans ((frame_afterSealAll s).same .fence)).trans fence
  have invalidated : (afterInvalidation (afterSealAll s)).buf = (afterSealAll s).buf := f.same .buf
  refine finishEvent_sameUnits (fun i => ?_) same fun _ => (acceptStopped_iff _).2 (.inl (by simp))
  have sealed := slotLive_afterSealAll s i
  simpa only [slotLive, slotAt, State.setQuiesce_buf, invalidated, buf] using sealed

/-- With every slot EMPTY, and no wait ended, nothing follows. -/
theorem finishEvent_quiet {s0 s : State} (quiet : quietCondition s = true) (buf : s.buf = s0.buf)
    (fence : s.fence = s0.fence) (stopped : acceptStopped s0 = true → acceptStopped s = true) :
    finishEvent s0 s = s := by
  have live : ∀ i, slotLive s i = slotLive s0 i := fun i => by rw [slotLive, slotLive, slotAt, slotAt, buf]
  rw [finishEvent_sameUnits live fence stopped]
  exact drainTest_noSlotLive (slotAt_of_quiet quiet)

/-! ### DRN_REQ (R157) -/

theorem drainRises_run {s : State} (h : s.quiesce.state = .run) :
    drainRises s = finishEvent s (quiesceStart (s.setQuiesce { s.quiesce with drainHeld := true })) := by
  simp [drainRises, h]

theorem drainRises_quiescing {s : State} (h : s.quiesce.state = .quiescing) :
    drainRises s = s.setQuiesce { s.quiesce with drainHeld := true } := by
  simp [drainRises, h]

theorem drainFalls_pending {s : State} (h : s.quiesce.state = .quiescing) (pending : s.quiesce.commitPending = true) :
    drainFalls s = s.setQuiesce { s.quiesce with drainHeld := false } := by
  simp [drainFalls, h, pending]

theorem drainFalls_returns {s : State}
    (h : s.quiesce.state = .quiet ∨ s.quiesce.state = .quiescing ∧ s.quiesce.commitPending = false) :
    drainFalls s = finishEvent s (returnToRun (s.setQuiesce { s.quiesce with drainHeld := false })) := by
  obtain h | ⟨h, idle⟩ := h
  · simp [drainFalls, h]
  · simp [drainFalls, h, idle]

/-- R155: DRN_REQ rises in RUN with the QUIET condition met. -/
theorem drainRises_quiet {s : State} (law : QuiesceLaw s.quiesce) (run : s.quiesce.state = .run) (apart : TagsApart s)
    (quiet : quietCondition s = true) :
    drainRises s = (afterInvalidation s).setQuiesce
      { state := .quiet, commitPending := false, drainHeld := true, drnAck := true } := by
  have noCommit : s.quiesce.commitPending = false := by rw [quiesceLaw_run law run]
  rw [drainRises_run run,
    quiesceStart_idle (s := s.setQuiesce { s.quiesce with drainHeld := true }) apart quiet noCommit,
    afterInvalidation_setQuiesce]
  refine finishEvent_quiet ?_ rfl rfl fun _ => (acceptStopped_iff _).2 (.inl (by simp [QuiesceController.settled]))
  rw [quietCondition_of_frame (frame_setQuiesce _ _), quietCondition_of_frame (frame_setQuiesce _ _),
    quietCondition_afterInvalidation, quiet]

/-- R156: once the controller is back in RUN, the waiting request is examined anew where acceptance has resumed. -/
theorem finishEvent_resumes {s0 u : State} (stopped : acceptStopped s0 = true)
    (live : ∀ i, slotLive u i = slotLive s0 i) (fence : u.fence = s0.fence) :
    finishEvent s0 u = drainTest
      (match u.acc.head with
        | some m => if acceptStopped u then u else examine m u
        | none => u) := by
  rw [finishEvent, reexamine, waitEnded_sameUnits live fence, stopped]
  cases u.acc.head <;> cases acceptStopped u <;> rfl

/-- Settles O42: DRN_REQ rising in RUN (`drainRises_quiet`, `finishEvent_quiesceStart_busy`) and in QUIESCING, and
falling with a commit pending and without (`finishEvent_resumes`). -/
theorem drainLineMovesController : Obligations.DrainLineMovesController := by
  intro s reset law
  have rises : exec .drnReqRise s = .next (drainRises (s.setWires Wires.idle)) := event_outsideReset _ reset
  have falls : exec .drnReqFall s = .next (drainFalls (s.setWires Wires.idle)) := event_outsideReset _ reset
  refine ⟨fun run tags quiet => ?_, fun run tags ages busy => ?_, fun quiescing => ?_, fun quiescing pending => ?_,
    fun u leaves hu => ?_⟩
  · rw [rises, drainRises_quiet (s := s.setWires Wires.idle) law run tags.apart quiet]
    rfl
  · have started := finishEvent_quiesceStart_busy (s0 := s.setWires Wires.idle)
      (s := (s.setWires Wires.idle).setQuiesce { s.quiesce with drainHeld := true }) tags.apart ages busy rfl rfl
    rw [rises, drainRises_run (s := s.setWires Wires.idle) run]
    refine congrArg Host.Outcome.next (started.trans ?_)
    rw [quiesceLaw_run law run]
    rfl
  · rw [rises, drainRises_quiescing (s := s.setWires Wires.idle) quiescing]
    rfl
  · rw [falls, drainFalls_pending (s := s.setWires Wires.idle) quiescing pending]
    rfl
  · have noCommit : s.quiesce.commitPending = false :=
      leaves.elim (fun quiet => by rw [quiesceLaw_quiet law quiet]) And.right
    have stopped : acceptStopped (s.setWires Wires.idle) = true :=
      (acceptStopped_iff _).2 (.inl (by obtain h | ⟨h, -⟩ := leaves <;> simp [h]))
    have returned : returnToRun ((s.setWires Wires.idle).setQuiesce { s.quiesce with drainHeld := false }) = u := by
      rw [hu, returnToRun]
      simp only [State.setQuiesce, State.setWires, noCommit]
    have head : u.acc.head = s.acc.head := by rw [hu]
    rw [falls, drainFalls_returns (s := s.setWires Wires.idle) leaves]
    refine congrArg Host.Outcome.next ((congrArg _ returned).trans ?_)
    rw [← head]
    exact finishEvent_resumes stopped (fun i => by rw [hu]; rfl) (by rw [hu]; rfl)

/-! ### COMMIT (R159, R161) -/

/-- A data byte that lands in a write transfer of the port's own is taken there. -/
theorem event_portWrite_lands {s : State} {f : Bool} {i : Byte} (v : Byte) (reset : s.inReset = false)
    (lands : Lands s f i) :
    event s (portWrite f i v) = .next (takeByte v (beginWrite i (s.setWires Wires.idle))) := by
  have lands' : Lands (s.setWires Wires.idle) f i := lands
  rw [event_outsideReset _ reset, portWrite_lands v lands']

theorem exec_commit {s : State} {f : Bool} (reset : s.inReset = false) (lands : Lands s f 0x10) :
    exec (.commit f) s = .next (ackByte (takeCommit (beginWrite 0x10 (s.setWires Wires.idle)))) :=
  event_portWrite_lands 0x01 reset lands

/-- R189, R190: what the acknowledge of a byte that landed at index `i` leaves, `p` being the port
but for its pointer and its transfer. -/
theorem ackByte_landed {u : State} {p : ManagementPort} {i : Byte} (wires : u.wires = Wires.idle)
    (port : u.port = { p with index := i, transfer := .write }) :
    ackByte u = (u.setPort (p.acked i)).setWires (Wires.answer true) := by
  simp only [ackByte, wires, port, ManagementPort.acked, Wires.answer]

/-- The acknowledge of a byte and the drain engine's test act on different blocks. -/
theorem ackByte_drainTest (s : State) : ackByte (drainTest s) = drainTest (ackByte s) := by
  have issues : issuing (ackByte s) = issuing s := rfl
  have eligible : firstEligible (ackByte s) = firstEligible s := rfl
  rw [drainTest, drainTest, issues, eligible]
  split
  · rfl
  · split
    · next e _ =>
      have slot : slotAt (ackByte s) e.slot = slotAt s e.slot := rfl
      rw [beginSlot, beginSlot, slot]
      split <;> rfl
    · rfl

/-- R159: what a COMMIT finds of the staged table. -/
theorem stagedValid_iff (s : State) : s.win.staged.valid = true ↔ StagedValid s := by
  simp only [WindowTable.valid, StagedValid, List.all_eq_true, List.mem_finRange, forall_const, Bool.or_eq_true,
    Bool.not_eq_true', decide_eq_true_eq, ← Bool.not_eq_true, imp_iff_not_or]

theorem takeCommit_pending {s : State} (h : s.quiesce.commitPending = true) : takeCommit s = setResult .refused s := by
  simp [takeCommit, h]

theorem takeCommit_invalid {s : State} (h : s.quiesce.commitPending = false) (invalid : ¬ StagedValid s) :
    takeCommit s = setResult .invalid s := by
  simp [takeCommit, h, mt (stagedValid_iff s).1 invalid]

theorem takeCommit_valid {s : State} (h : s.quiesce.commitPending = false) (valid : StagedValid s) :
    takeCommit s = startCommit s := by
  simp [takeCommit, h, (stagedValid_iff s).2 valid]

/-- The state in which a valid COMMIT is PENDING (R159, step 3). -/
def commitPended (s : State) : State := setResult .pending (s.setQuiesce { s.quiesce with commitPending := true })

theorem startCommit_run {s : State} (h : s.quiesce.state = .run) :
    startCommit s = finishEvent s (quiesceStart (commitPended s)) := by
  simp [startCommit, commitPended, h]

theorem startCommit_quiescing {s : State} (h : s.quiesce.state = .quiescing) : startCommit s = commitPended s := by
  simp [startCommit, commitPended, h]

theorem startCommit_quiet {s : State} (h : s.quiesce.state = .quiet) :
    startCommit s = applyCommit (commitPended s) := by
  simp [startCommit, commitPended, h]

/-- R161, R162: a commit is applied at once in QUIET, and in RUN with the QUIET condition met. -/
theorem startCommit_applies {s : State} (law : QuiesceLaw s.quiesce) (apart : TagsApart s)
    (h : s.quiesce.state = .quiet ∨ s.quiesce.state = .run ∧ quietCondition s = true) :
    startCommit s = commitApplied s := by
  have controller : (commitApplied (commitPended s)).setQuiesce s.quiesce = commitApplied s := rfl
  obtain quiet | ⟨run, quiet⟩ := h
  · have same : { (commitPended s).quiesce with commitPending := false } = s.quiesce := by
      simp [commitPended, setResult, quiesceLaw_quiet law quiet]
    rw [startCommit_quiet quiet, applyCommit_applied (s := commitPended s) apart, same, controller]
  · have same : (commitPended s).quiesce.settled = s.quiesce := by
      simp [commitPended, setResult, QuiesceController.settled, quiesceLaw_run law run]
    rw [startCommit_run run, quiesceStart_commit (s := commitPended s) apart quiet rfl, same, controller]
    refine finishEvent_quiet ?_ rfl rfl id
    rw [commitApplied, quietCondition_of_frame (frame_setPort _ _), quietCondition_of_frame (frame_setIrq _ _),
      quietCondition_of_frame (frame_setWin _ _), quietCondition_afterInvalidation, quiet]

/-- R153, R161: in RUN without the QUIET condition the commit waits in QUIESCING. -/
theorem startCommit_waits {s : State} (law : QuiesceLaw s.quiesce) (apart : TagsApart s) (ages : AgesWhole s)
    (run : s.quiesce.state = .run) (busy : quietCondition s = false) :
    startCommit s = drainTest
      (((afterInvalidation (afterSealAll s)).setQuiesce
        { state := .quiescing, commitPending := true, drainHeld := false, drnAck := false }).setPort
          { s.port with result := .pending }) := by
  have started := finishEvent_quiesceStart_busy (s0 := s) (s := commitPended s) apart ages busy rfl rfl
  have controller : (commitPended s).quiesce =
      { state := .run, commitPending := true, drainHeld := false, drnAck := false } := by
    simp [commitPended, setResult, quiesceLaw_run law run]
  rw [startCommit_run run, started, controller, commitPended, setResult, afterSealAll_setPort, afterSealAll_setQuiesce,
    afterInvalidation_setPort, afterInvalidation_setQuiesce]
  generalize afterInvalidation (afterSealAll s) = u
  rfl

/-- Settles O41: a COMMIT byte runs the command and is acknowledged (`exec_commit`); the command refuses, finds the
table invalid, waits (`startCommit_quiescing`, `startCommit_waits`) or is applied (`startCommit_applies`). -/
theorem commitActsByState : Obligations.CommitActsByState := by
  intro s f reset lands
  have ran := exec_commit reset lands
  have noCommit : QuiesceLaw s.quiesce → s.quiesce.state = .run ∨ s.quiesce.state = .quiet →
      s.quiesce.commitPending = false := fun law h =>
    h.elim (fun run => by rw [quiesceLaw_run law run]) fun quiet => by rw [quiesceLaw_quiet law quiet]
  refine ⟨fun pending => ?_, fun idle invalid => ?_, fun idle valid quiescing => ?_, fun valid law tags h => ?_,
    fun valid law tags ages run busy => ?_⟩
  · rw [ran, takeCommit_pending (s := beginWrite 0x10 (s.setWires Wires.idle)) pending,
      ackByte_landed (p := { s.port with result := .refused }) (i := 0x10) rfl rfl]
    simp only [setResult, beginWrite, State.setPort, State.setWires, ManagementPort.acked]
  · rw [ran, takeCommit_invalid (s := beginWrite 0x10 (s.setWires Wires.idle)) idle invalid,
      ackByte_landed (p := { s.port with result := .invalid }) (i := 0x10) rfl rfl]
    simp only [setResult, beginWrite, State.setPort, State.setWires, ManagementPort.acked]
  · rw [ran, takeCommit_valid (s := beginWrite 0x10 (s.setWires Wires.idle)) idle valid,
      startCommit_quiescing (s := beginWrite 0x10 (s.setWires Wires.idle)) quiescing,
      ackByte_landed (p := { s.port with result := .pending }) (i := 0x10) rfl rfl]
    simp only [commitPended, setResult, beginWrite, State.setPort, State.setQuiesce, State.setWires,
      ManagementPort.acked]
  · have idle := noCommit law (h.symm.imp_left And.left)
    rw [ran, takeCommit_valid (s := beginWrite 0x10 (s.setWires Wires.idle)) idle valid,
      startCommit_applies (s := beginWrite 0x10 (s.setWires Wires.idle)) law tags.apart h,
      ackByte_landed (p := { s.port with result := .done }) (i := 0x10) rfl rfl, commitApplied, beginWrite,
      afterInvalidation_setPort, afterInvalidation_setWires]
    simp only [State.setPort, State.setWin, State.setIrq, State.setWires, ManagementPort.acked]
  · have idle := noCommit law (.inl run)
    rw [ran, takeCommit_valid (s := beginWrite 0x10 (s.setWires Wires.idle)) idle valid,
      startCommit_waits (s := beginWrite 0x10 (s.setWires Wires.idle)) law tags.apart ages run busy, ackByte_drainTest,
      beginWrite, afterSealAll_setPort, afterSealAll_setWires, afterInvalidation_setPort, afterInvalidation_setWires,
      ackByte_landed (p := { s.port with result := .pending }) (i := 0x10) rfl rfl]
    simp only [State.setPort, State.setQuiesce, State.setWires, ManagementPort.acked]

end Sys2Proof.Machine
end

section
/-! PROOFS. The staged table through the management port (O48): a byte written, and what the staged
registers then read. -/

namespace Sys2Proof.Machine

set_option Elab.async false

/-! ### Codes and pages -/

theorem code_classOfCode (c : BitVec 2) : (classOfCode c).code = c := by
  revert c; decide

/-- R190, R192: the bits of a page number of which byte `k` has been written. -/
theorem putPageByte_getLsbD (p : Page) (k : Nat) (v : Byte) (n : Nat) :
    (putPageByte p k v).getLsbD n =
      (decide (n < 28) && if 8 * k ≤ n ∧ n < 8 * k + 8 then v.getLsbD (n - 8 * k) else p.getLsbD n) := by
  have ones : (0xFF : BitVec 32) = (BitVec.allOnes 8).setWidth 32 := rfl
  by_cases page : n < 28
  · have word : n < 32 := by omega
    have offset : n - 8 * k < 32 := by omega
    simp only [putPageByte, ones, BitVec.getLsbD_setWidth, BitVec.getLsbD_or, BitVec.getLsbD_and, BitVec.getLsbD_not,
      BitVec.getLsbD_shiftLeft, BitVec.getLsbD_allOnes, page, word, offset, decide_true, Bool.true_and]
    by_cases before : n < 8 * k
    · have outside : ¬ 8 * k ≤ n := by omega
      simp [before, outside]
    · by_cases inside : n - 8 * k < 8
      · have within : 8 * k ≤ n ∧ n < 8 * k + 8 := by omega
        simp [before, inside, within]
      · have outside : ¬ n < 8 * k + 8 := by omega
        have zero : v.getLsbD (n - 8 * k) = false := BitVec.getLsbD_of_ge v _ (Nat.le_of_not_lt inside)
        simp [before, inside, outside, zero]
  · simp [page, BitVec.getLsbD_of_ge (putPageByte p k v) n (Nat.le_of_not_lt page)]

/-- R190: the upper four bits of a page's top byte are discarded. -/
theorem fieldByte_putPageByte_same (p : Page) {k : Nat} (hk : k < 4) (v : Byte) :
    fieldByte (putPageByte p k v) k = v &&& if k = 3 then 0x0F else 0xFF := by
  have low : ∀ b < 8, (0x0F : Byte).getLsbD b = decide (b < 4) := by decide
  have all : ∀ b < 8, (0xFF : Byte).getLsbD b = true := by decide
  refine BitVec.eq_of_getLsbD_eq fun b hb => ?_
  have within : 8 * k ≤ 8 * k + b ∧ 8 * k + b < 8 * k + 8 := by omega
  simp only [fieldByte, BitVec.getLsbD_extractLsb', putPageByte_getLsbD, hb, decide_true, Bool.true_and, if_pos within,
    Nat.add_sub_cancel_left, BitVec.getLsbD_and]
  split
  · next top =>
    have bits : 8 * k + b < 28 ↔ b < 4 := by omega
    rw [low b hb, decide_eq_decide.2 bits, Bool.and_comm]
  · have page : 8 * k + b < 28 := by omega
    rw [all b hb, decide_eq_true page, Bool.true_and, Bool.and_true]

theorem fieldByte_putPageByte_other (p : Page) {j k : Nat} (hj : j ≠ k) (v : Byte) :
    fieldByte (putPageByte p k v) j = fieldByte p j := by
  refine BitVec.eq_of_getLsbD_eq fun b hb => ?_
  simp only [fieldByte, BitVec.getLsbD_extractLsb', putPageByte_getLsbD]
  have outside : ¬ (8 * k ≤ 8 * j + b ∧ 8 * j + b < 8 * k + 8) := by omega
  rw [if_neg outside]
  by_cases h : 8 * j + b < 28
  · simp [h]
  · simp [h, BitVec.getLsbD_of_ge p _ (Nat.le_of_not_lt h)]

/-! ### A window record's bytes (R192) -/

/-- The bits that byte `k` of a window record holds. -/
def recordBits (k : Nat) : Byte := if k = 0 ∨ k = 5 ∨ k = 9 then 0x0F else 0xFF

/-- R192: the four bits of a control byte. -/
theorem control_writeByte (w : WindowRecord) (v : Byte) : (w.writeByte 0 v).control = v &&& 0x0F := by
  simp only [WindowRecord.writeByte, if_true, WindowRecord.control, code_classOfCode]
  revert v
  decide

theorem WindowRecord.readByte_writeByte_same (w : WindowRecord) {k : Nat} (hk : k < 10) (v : Byte) :
    (w.writeByte k v).readByte k = v &&& recordBits k := by
  obtain rfl | rfl | ⟨lo, hi⟩ | lo : k = 0 ∨ k = 1 ∨ (2 ≤ k ∧ k < 6) ∨ 6 ≤ k := by omega
  · exact control_writeByte w v
  · exact (BitVec.and_allOnes (x := v)).symm
  · have written : (w.writeByte k v).readByte k = fieldByte (putPageByte w.base (k - 2) v) (k - 2) := by
      simp [WindowRecord.writeByte, WindowRecord.readByte, hi, show k ≠ 0 by omega, show k ≠ 1 by omega]
    have top : (k = 0 ∨ k = 5 ∨ k = 9) ↔ k - 2 = 3 := by omega
    rw [written, fieldByte_putPageByte_same _ (by omega), recordBits, if_congr top rfl rfl]
  · have written : (w.writeByte k v).readByte k = fieldByte (putPageByte w.limit (k - 6) v) (k - 6) := by
      simp [WindowRecord.writeByte, WindowRecord.readByte, hk, show k ≠ 0 by omega, show k ≠ 1 by omega,
        show ¬ k < 6 by omega]
    have top : (k = 0 ∨ k = 5 ∨ k = 9) ↔ k - 6 = 3 := by omega
    rw [written, fieldByte_putPageByte_same _ (by omega), recordBits, if_congr top rfl rfl]

theorem WindowRecord.readByte_writeByte_other (w : WindowRecord) {j k : Nat} (ne : j ≠ k) (v : Byte) :
    (w.writeByte k v).readByte j = w.readByte j := by
  obtain rfl | rfl | ⟨lo, hi⟩ | ⟨lo, hi⟩ | hi : k = 0 ∨ k = 1 ∨ (2 ≤ k ∧ k < 6) ∨ (6 ≤ k ∧ k < 10) ∨ 10 ≤ k := by
    omega
  · simp [WindowRecord.writeByte, WindowRecord.readByte, ne]
  · simp [WindowRecord.writeByte, WindowRecord.readByte, WindowRecord.control, ne]
  · have written : w.writeByte k v = { w with base := putPageByte w.base (k - 2) v } := by
      simp [WindowRecord.writeByte, hi, show k ≠ 0 by omega, show k ≠ 1 by omega]
    rw [written]
    unfold WindowRecord.readByte
    split_ifs
    · rfl
    · rfl
    · exact fieldByte_putPageByte_other _ (by omega) v
    · rfl
    · rfl
  · have written : w.writeByte k v = { w with limit := putPageByte w.limit (k - 6) v } := by
      simp [WindowRecord.writeByte, hi, show k ≠ 0 by omega, show k ≠ 1 by omega, show ¬ k < 6 by omega]
    rw [written]
    unfold WindowRecord.readByte
    split_ifs
    · rfl
    · rfl
    · rfl
    · exact fieldByte_putPageByte_other _ (by omega) v
    · rfl
  · simp [WindowRecord.writeByte, show k ≠ 0 by omega, show k ≠ 1 by omega, show ¬ k < 6 by omega,
      show ¬ k < 10 by omega]

/-! ### The staged table's registers (R192) -/

/-- The window record that a staged index above 4Fh stands in. -/
def recordIndex (i : Byte) : Fin 8 := Fin.ofNat 8 ((i.toNat - 0x50) / 16)

/-- The byte of its record that a staged index above 4Fh stands for. -/
def recordByte (i : Byte) : Nat := (i.toNat - 0x50) % 16

/-- R192: what the staged table shows at one of its indices. -/
def WindowTable.readByte (w : WindowTable) (i : Byte) : Byte :=
  if i = 0x0E then w.dflt.code.setWidth 8 else (w.recs[recordIndex i]).readByte (recordByte i)

theorem isStagedIndex_iff (i : Byte) :
    isStagedIndex i = true ↔ i = 0x0E ∨ 0x50 ≤ i.toNat ∧ i.toNat < 0xD0 ∧ recordByte i < 10 := by
  simp [isStagedIndex, recordByte, and_assoc]

/-- The window records' registers show the staged table's records. -/
theorem readReg_record (s : State) (h : Option LossRecord) {i : Byte} (lo : 0x50 ≤ i.toNat) (hi : i.toNat < 0xD0) :
    readReg s h i = (s.win.staged.recs[recordIndex i]).readByte (recordByte i) := by
  have notHead : inLogHead i = false := by
    simp only [inLogHead, Bool.and_eq_false_iff, decide_eq_false_iff_not]
    omega
  unfold readReg
  split
  case h_29 => simp [notHead, lo, hi, recordIndex, recordByte]
  all_goals omega

theorem readReg_staged (s : State) (h : Option LossRecord) {i : Byte} (staged : isStagedIndex i = true) :
    readReg s h i = s.win.staged.readByte i := by
  obtain rfl | ⟨lo, hi, -⟩ := (isStagedIndex_iff i).1 staged
  · rfl
  · have record : i ≠ 0x0E := by rintro rfl; simp at lo
    rw [readReg_record s h lo hi, WindowTable.readByte, if_neg record]

theorem stagedBits_record {i : Byte} (record : i ≠ 0x0E) : stagedBits i = recordBits (recordByte i) := by
  rw [stagedBits, if_neg record, recordBits, recordByte]

theorem WindowTable.writeByte_record (w : WindowTable) {i : Byte} (record : i ≠ 0x0E) (v : Byte) :
    w.writeByte i v =
      { w with recs := w.recs.set (recordIndex i) ((w.recs[recordIndex i]).writeByte (recordByte i) v) } := by
  simp only [WindowTable.writeByte, if_neg record]
  rfl

/-- A staged register reads back as the bits it holds. -/
theorem WindowTable.readByte_writeByte_same (w : WindowTable) {i : Byte} (staged : isStagedIndex i = true) (v : Byte) :
    (w.writeByte i v).readByte i = v &&& stagedBits i := by
  obtain rfl | ⟨lo, -, hk⟩ := (isStagedIndex_iff i).1 staged
  · simp only [WindowTable.writeByte, WindowTable.readByte, if_true, code_classOfCode]
    revert v
    decide
  · have record : i ≠ 0x0E := by rintro rfl; simp at lo
    rw [WindowTable.readByte, if_neg record, w.writeByte_record record, stagedBits_record record]
    simp only [Fin.getElem_fin, Vector.getElem_set_self]
    exact WindowRecord.readByte_writeByte_same _ hk v

/-- Every other staged register reads as before. -/
theorem WindowTable.readByte_writeByte_other (w : WindowTable) {i j : Byte} (hi : isStagedIndex i = true)
    (hj : isStagedIndex j = true) (ne : j ≠ i) (v : Byte) : (w.writeByte i v).readByte j = w.readByte j := by
  obtain rfl | ⟨lo, hi, -⟩ := (isStagedIndex_iff i).1 hi
  · simp only [WindowTable.writeByte, WindowTable.readByte, if_true, if_neg ne]
  · have record : i ≠ 0x0E := by rintro rfl; simp at lo
    rw [w.writeByte_record record]
    obtain rfl | ⟨lo', hi', -⟩ := (isStagedIndex_iff j).1 hj
    · rfl
    · have record' : j ≠ 0x0E := by rintro rfl; simp at lo'
      rw [WindowTable.readByte, WindowTable.readByte, if_neg record', if_neg record']
      simp only [Fin.getElem_fin, Vector.getElem_set]
      split
      · next same =>
        have apart : recordByte j ≠ recordByte i := fun e => ne (BitVec.eq_of_toNat_eq (by
          simp only [recordIndex, recordByte, Fin.ofNat] at same e
          omega))
        simp only [same]
        exact WindowRecord.readByte_writeByte_other _ apart v
      · rfl

/-! ### The byte taken (R160, R190) -/

/-- R160, R190: a byte of the staged table, at the index pointer. -/
theorem takeByte_staged {s : State} {i : Byte} (pointer : s.port.index = i) (staged : isStagedIndex i = true)
    (v : Byte) :
    takeByte v s =
      if s.quiesce.commitPending then nackByte s
      else ackByte (s.setWin { s.win with staged := s.win.staged.writeByte i v }) := by
  simp only [takeByte, pointer, writeReg, staged, if_true, takeStaged]
  split <;> rfl

/-- Settles O48: the byte is refused or taken by COMMIT_PENDING, and every staged register shows the staged table
(`readReg_staged`), of which one byte is written (`WindowTable.readByte_writeByte_same`,
`WindowTable.readByte_writeByte_other`). -/
theorem stagedWritesTaken : Obligations.StagedWritesTaken := by
  intro s i v f reset lands staged
  have taken : exec (.stagedTableWrite i v f) s = .next _ := event_portWrite_lands v reset lands
  have commit : (beginWrite i (s.setWires Wires.idle)).quiesce.commitPending = s.quiesce.commitPending := rfl
  rw [taken, takeByte_staged (s := beginWrite i (s.setWires Wires.idle)) (i := i) rfl staged v, commit]
  refine ⟨fun pending => ?_, fun idle => ?_⟩
  · rw [if_pos pending]
    simp only [nackByte, noAck, beginWrite, State.setPort, State.setWires, ManagementPort.refused, Wires.answer]
  · rw [if_neg (Bool.eq_false_iff.1 idle), ackByte_landed (p := s.port) (i := i) rfl rfl]
    refine ⟨_, rfl, ?_, fun h => ⟨?_, fun j hj ne => ?_⟩⟩
    · simp only [beginWrite, State.setPort, State.setWin, State.setWires]
    · rw [readReg_staged _ h staged]
      exact WindowTable.readByte_writeByte_same _ staged v
    · rw [readReg_staged _ h hj, readReg_staged s h hj]
      exact WindowTable.readByte_writeByte_other _ staged hj ne v

end Sys2Proof.Machine
end

section
/-! PROOFS. The bounds of lists, counts, timers and thresholds (O56), block by block: what a change of each bounded block has to show. -/

namespace Sys2Proof.Machine

set_option Elab.async false

/-! ### One bound per block -/

/-- What `Bounded` says of a block, which depends on no other block. -/
def BlockBounded : Block → State → Prop
  | .flog => LogBounded
  | .fence => FencesBounded
  | .pf => RecencyWhole
  | .cfg => ThresholdsInRange
  | .trk => EntriesInRange
  | .buf => HoldsInRange
  | _ => fun _ => True

/-- The blocks with a bound. -/
def boundedBlocks : List Block := [.flog, .fence, .pf, .cfg, .trk, .buf]

theorem bounded_iff (s : State) : Bounded s ↔ ∀ b ∈ boundedBlocks, BlockBounded b s := by
  simp [Bounded, boundedBlocks, BlockBounded]

theorem BlockBounded.of_same {s t : State} {b : Block} (same : Same s t b) (h : BlockBounded b s) :
    BlockBounded b t := by
  cases b with
  | flog => simpa only [BlockBounded, LogBounded, show t.flog = s.flog from same] using h
  | fence => simpa only [BlockBounded, FencesBounded, show t.fence = s.fence from same] using h
  | pf => simpa only [BlockBounded, RecencyWhole, show t.pf = s.pf from same] using h
  | cfg => simpa only [BlockBounded, ThresholdsInRange, show t.cfg = s.cfg from same] using h
  | trk => simpa only [BlockBounded, EntriesInRange, entryAt, show t.trk = s.trk from same] using h
  | buf => simpa only [BlockBounded, HoldsInRange, slotAt, show t.buf = s.buf from same] using h
  | _ => trivial

/-- `t` is within the bounds if `s` is. -/
def KeepsBounds (s t : State) : Prop := Bounded s → Bounded t

theorem KeepsBounds.refl (s : State) : KeepsBounds s s := id

theorem KeepsBounds.trans {s t u : State} (h : KeepsBounds s t) (k : KeepsBounds t u) : KeepsBounds s u := k ∘ h

theorem KeepsBounds.foldl {α : Type} (f : State → α → State) (hf : ∀ s a, KeepsBounds s (f s a)) (l : List α)
    (s : State) : KeepsBounds s (l.foldl f s) := by
  induction l generalizing s with
  | nil => exact .refl s
  | cons a l ih => exact (hf s a).trans (ih (f s a))

/-- An operation has to show the bound of each bounded block that it may change. -/
theorem KeepsBounds.of_blocks {bs : List Block} {s t : State} (f : Frame bs s t)
    (changed : Bounded s → ∀ b ∈ boundedBlocks, b ∈ bs → BlockBounded b t) : KeepsBounds s t := fun h => by
  refine (bounded_iff t).2 fun b hb => ?_
  by_cases hm : b ∈ bs
  · exact changed h b hb hm
  · exact .of_same (f b hm) ((bounded_iff s).1 h b hb)

/-- An operation that changes no bounded block. -/
theorem KeepsBounds.of_frame {bs : List Block} {s t : State} (f : Frame bs s t)
    (hb : ∀ b ∈ bs, b ∉ boundedBlocks := by decide) : KeepsBounds s t :=
  .of_blocks f fun _ b bounded hm => absurd bounded (hb b hm)

/-- An operation that changes one bounded block. -/
theorem KeepsBounds.of_block {bs : List Block} {s t : State} (b₀ : Block) (f : Frame bs s t)
    (changed : Bounded s → BlockBounded b₀ t) (hb : ∀ b ∈ bs, b = b₀ ∨ b ∉ boundedBlocks := by decide) :
    KeepsBounds s t :=
  .of_blocks f fun h b bounded hm => (hb b hm).elim (fun e => e ▸ changed h) fun free => absurd bounded free

theorem Bounded.log {s : State} (h : Bounded s) : LogBounded s := (bounded_iff s).1 h .flog (by decide)
theorem Bounded.fences {s : State} (h : Bounded s) : FencesBounded s := (bounded_iff s).1 h .fence (by decide)
theorem Bounded.recency {s : State} (h : Bounded s) : RecencyWhole s := (bounded_iff s).1 h .pf (by decide)
theorem Bounded.thresholds {s : State} (h : Bounded s) : ThresholdsInRange s := (bounded_iff s).1 h .cfg (by decide)
theorem Bounded.entries {s : State} (h : Bounded s) : EntriesInRange s := (bounded_iff s).1 h .trk (by decide)
theorem Bounded.holds {s : State} (h : Bounded s) : HoldsInRange s := (bounded_iff s).1 h .buf (by decide)

/-! ### Hold timers (R18) -/

/-- A slot record that is put has to have its hold timer in range. -/
theorem HoldsInRange.set {s t : State} {i : SlotIx} {x : Option Slot} (h : HoldsInRange s)
    (put : ∀ j, slotAt t j = if i = j then x else slotAt s j) (hx : ∀ y ∈ x, y.phase.holdInRange = true) :
    HoldsInRange t := fun j y hy => by
  rw [put] at hy
  split at hy
  · exact hx y hy
  · exact h j y hy

theorem HoldsInRange.map {s t : State} {f : Slot → Slot} (h : HoldsInRange s)
    (all : ∀ i, slotAt t i = (slotAt s i).map f)
    (hf : ∀ x, x.phase.holdInRange = true → (f x).phase.holdInRange = true) : HoldsInRange t := fun i y hy => by
  rw [all, Option.mem_map] at hy
  obtain ⟨x, hx, rfl⟩ := hy
  exact hf x (h i x hx)

theorem keepsBounds_putSlot (i : SlotIx) {x : Slot} {s : State}
    (hx : HoldsInRange s → x.phase.holdInRange = true) : KeepsBounds s (putSlot i (some x) s) :=
  .of_block .buf (frame_putSlot i _ s) fun h =>
    h.holds.set (fun j => slotAt_putSlot i j _ s) (by simpa using hx h.holds)

/-- A record put with the phase of the one it replaces. -/
theorem keepsBounds_putSlot_samePhase {s : State} {i : SlotIx} {x y : Slot} (hx : slotAt s i = some x)
    (same : y.phase = x.phase) : KeepsBounds s (putSlot i (some y) s) :=
  keepsBounds_putSlot i fun h => same ▸ h i x hx

/-- R21: a hold timer runs where the hold time is not 0, and starts at it. -/
theorem keepsBounds_openSlot (i : SlotIx) (r : Request) (c : Classification) (s : State) :
    KeepsBounds s (openSlot i r c s) := by
  have opened : (openedSlot r c s).phase.holdInRange = true := by
    simp only [openedSlot, openingTimer]
    split
    · next runs =>
      obtain ⟨-, nonzero⟩ := Bool.and_eq_true_iff.1 runs
      have pos : c.hold.toNat ≠ 0 := fun e => by simp [BitVec.eq_of_toNat_eq (y := 0) e] at nonzero
      have := c.hold.isLt
      simp only [SlotPhase.holdInRange, Bool.and_eq_true, decide_eq_true_eq]
      omega
    · rfl
  exact .of_block .buf (frame_openSlot i r c s) fun h =>
    h.holds.set (slotAt_putSlot i · (some (openedSlot r c s)) s) (by simpa using opened)

theorem keepsBounds_emptySlot (i : SlotIx) (s : State) : KeepsBounds s (emptySlot i s) :=
  .of_block .buf (frame_emptySlot i s) fun h => h.holds.set (slotAt_putSlot i · none s) (by simp)

theorem keepsBounds_answerRead (a : Response) (s : State) : KeepsBounds s (answerRead a s) :=
  .of_block .buf (frame_answerRead a s) fun h =>
    h.holds.map (f := fun x => { x with blockers := x.blockers.filter (· != a.tag) })
      (by simp [slotAt, answerRead, dropRead, dropBlocker, pushResponse, setTag]) fun _ hx => hx

/-! ### The fence list (R64) -/

/-- R71: a completion test that goes through a list of at most four leaves at most four. -/
theorem keepsBounds_fenceTestFrom {l : List FenceRecord} (len : l.length ≤ 4) (s : State) :
    KeepsBounds s (fenceTestFrom l s) := by
  induction l generalizing s with
  | nil => exact .refl s
  | cons f rest ih =>
    have left : rest.length ≤ 4 := Nat.le_of_succ_le len
    unfold fenceTestFrom; split
    · exact .refl s
    · exact (KeepsBounds.of_block .fence (frame_completeFence f rest s) fun _ => left).trans (ih left _)

theorem keepsBounds_fenceTest (s : State) : KeepsBounds s (fenceTest s) := fun h =>
  keepsBounds_fenceTestFrom h.fences s h

/-! ### The recency order (R101) -/

theorem toMru_whole {order : List PfIx} (e : PfIx) (h : order.Nodup ∧ ∀ f, f ∈ order) :
    (toMru e order).Nodup ∧ ∀ f, f ∈ toMru e order := by
  obtain ⟨nodup, mem⟩ := h
  refine ⟨List.nodup_append'.2 ⟨nodup.filter _, by simp, by simp⟩, fun f => ?_⟩
  by_cases same : f = e <;> simp [toMru, mem, same]

theorem toLru_whole {order : List PfIx} (es : List PfIx) (h : order.Nodup ∧ ∀ f, f ∈ order) :
    (toLru es order).Nodup ∧ ∀ f, f ∈ toLru es order := by
  have perm : List.Perm (toLru es order) order := List.filter_append_perm (es.contains ·) order
  exact ⟨perm.nodup_iff.2 h.1, fun f => perm.mem_iff.2 (h.2 f)⟩

theorem keepsBounds_putPf (e : PfIx) (x : Option PfEntry) (s : State) : KeepsBounds s (putPf e x s) :=
  .of_block .pf (frame_putPf e x s) fun h => h.recency

theorem keepsBounds_markMru (e : PfIx) (s : State) : KeepsBounds s (markMru e s) :=
  .of_block .pf (frame_markMru e s) fun h => toMru_whole e h.recency

theorem keepsBounds_emptyPf (es : List PfIx) (s : State) : KeepsBounds s (emptyPf es s) :=
  .of_block .pf (frame_emptyPf es s) fun h => toLru_whole es h.recency

/-! ### The counts of the tracker's entries (R115, R119, R123, R130) -/

theorem keepsBounds_putEntry (m : MemTag) {x : TrackerEntry} {s : State}
    (hx : Bounded s → x.countsInRange = true) : KeepsBounds s (putEntry m x s) :=
  .of_block .trk (frame_putEntry m x s) fun h k => by
    rw [entryAt_putEntry]
    split
    · exact hx h
    · exact h.entries k

theorem keepsBounds_setTrk {s : State} {x : Tracker} (entries : x.entries = s.trk.entries) :
    KeepsBounds s (s.setTrk x) :=
  .of_block .trk (frame_setTrk s x) fun h m => by
    have same : entryAt (s.setTrk x) m = entryAt s m := by simp only [entryAt, State.setTrk_trk, entries]
    exact same ▸ h.entries m

/-- A change of every entry by `f`. -/
theorem EntriesInRange.map {s t : State} {f : TrackerEntry → TrackerEntry} (h : EntriesInRange s)
    (all : ∀ m, entryAt t m = f (entryAt s m))
    (hf : ∀ x, x.countsInRange = true → (f x).countsInRange = true) : EntriesInRange t :=
  fun m => all m ▸ hf _ (h m)

/-- R119: the response timeout is at least 1, so that the timer an ISSUED entry starts with is in range. -/
theorem issued_inRange {s : State} (h : ThresholdsInRange s) (req : MemRequest) {a : Nat} (ha : a ≤ 15) :
    (TrackerEntry.issued req a s.cfg.responseTimeout.toNat).countsInRange = true := by
  obtain ⟨-, -, -, -, timeout⟩ := h
  have := s.cfg.responseTimeout.isLt
  simp only [TrackerEntry.countsInRange, Bool.and_eq_true, decide_eq_true_eq]
  omega

/-- R126, R130: 16 times the response timeout. -/
theorem late_inRange {s : State} (h : ThresholdsInRange s) :
    (TrackerEntry.late (reclaimTicks s)).countsInRange = true := by
  obtain ⟨-, -, -, -, timeout⟩ := h
  have := s.cfg.responseTimeout.isLt
  have ticks : 1 ≤ reclaimTicks s ∧ reclaimTicks s ≤ 1048560 := by unfold reclaimTicks; omega
  simpa [TrackerEntry.countsInRange] using ticks

/-- R123: a backoff base of 1 to 15, doubled at most five times. -/
theorem backoff_inRange {s : State} (h : ThresholdsInRange s) (req : MemRequest) {a : Nat} (pos : 1 ≤ a)
    (within : a ≤ s.cfg.retryLimit.toNat) :
    (TrackerEntry.backoffWaiting req a (backoffTicks s.cfg.backoffBase a)).countsInRange = true := by
  obtain ⟨-, -, limit, ⟨low, high⟩, -⟩ := h
  have factor_pos : 1 ≤ 2 ^ min (a - 1) 5 := Nat.one_le_two_pow
  have factor_le : 2 ^ min (a - 1) 5 ≤ 2 ^ 5 := Nat.pow_le_pow_right (by decide) (min_le_right _ _)
  have ticks_pos : 1 ≤ backoffTicks s.cfg.backoffBase a := Nat.mul_le_mul low factor_pos
  have ticks_le : backoffTicks s.cfg.backoffBase a ≤ 15 * 2 ^ 5 := Nat.mul_le_mul high factor_le
  simp only [TrackerEntry.countsInRange, Bool.and_eq_true, decide_eq_true_eq]
  omega

/-! ### The fault log (R166) -/

theorem keepsBounds_addLoss (r : LossRecord) (s : State) : KeepsBounds s (addLoss r s) :=
  .of_block .flog (frame_addLoss r s) fun h => by
    have before : s.flog.records.length ≤ 8 := h.log
    change (addLoss r s).flog.records.length ≤ 8
    rw [addLoss_flog]
    split
    · simpa using ‹s.flog.records.length < 8›
    · exact before

theorem keepsBounds_reportLoss (r : LossRecord) (s : State) : KeepsBounds s (reportLoss r s) :=
  (keepsBounds_addLoss r s).trans (.of_block .fence (frame_setFence _ _) fun h => h.fences)

theorem keepsBounds_takeLogPop (s : State) : KeepsBounds s (takeLogPop s) := by
  unfold takeLogPop; split
  · exact .of_frame (frame_setResult _ s)
  · next r rest full =>
    refine .trans (.of_block .flog (frame_setFlog s _) fun h => ?_) (.of_frame (frame_setResult _ _))
    have before : s.flog.records.length ≤ 8 := h.log
    rw [full] at before
    exact Nat.le_of_succ_le before

theorem keepsBounds_takeLogClearOvf (s : State) : KeepsBounds s (takeLogClearOvf s) :=
  (KeepsBounds.of_block .flog (frame_setFlog s { s.flog with overflow := 0 }) fun h => h.log).trans
    (.of_frame (frame_setResult .done _))

/-! ### Counts at a tick -/

/-- A timer with ticks left has some left after the tick. -/
theorem countDown_inRange {n hi : Nat} (h : 1 ≤ n ∧ n ≤ hi) : 1 ≤ countDown n ∧ countDown n ≤ hi := by
  unfold countDown; split
  · exact h
  · next running =>
    rw [expiring_iff] at running
    omega

theorem tick_holdInRange (x : Slot) (h : x.phase.holdInRange = true) : x.tick.phase.holdInRange = true := by
  unfold Slot.tick; split
  · next n filling =>
    rw [filling] at h
    simpa [SlotPhase.holdInRange] using countDown_inRange (by simpa [SlotPhase.holdInRange] using h)
  all_goals exact h

theorem tick_countsInRange (x : TrackerEntry) (h : x.countsInRange = true) : x.tick.countsInRange = true := by
  cases x with
  | issued req a n =>
    simp only [TrackerEntry.countsInRange, TrackerEntry.tick, Bool.and_eq_true, decide_eq_true_eq, and_assoc] at h ⊢
    exact ⟨h.1, countDown_inRange h.2⟩
  | backoffWaiting req a n =>
    simp only [TrackerEntry.countsInRange, TrackerEntry.tick, Bool.and_eq_true, decide_eq_true_eq, and_assoc] at h ⊢
    obtain ⟨pos, le, timer⟩ := h
    exact ⟨pos, le, countDown_inRange timer⟩
  | late n => simpa [TrackerEntry.countsInRange, TrackerEntry.tick] using
      countDown_inRange (by simpa [TrackerEntry.countsInRange] using h)
  | free => exact h
  | backoffOffered req a => exact h

/-- R46: a tick moves the hold timers and the entries' timers, and no timer that runs to 0. -/
theorem keepsBounds_countTick (s : State) : KeepsBounds s (countTick s) :=
  .of_blocks (frame_countTick s) fun h b bounded hm => by
    obtain rfl | rfl : b = .trk ∨ b = .buf := by revert b; decide
    · exact h.entries.map (entryAt_countTick s) tick_countsInRange
    · exact h.holds.map (slotAt_countTick s) tick_holdInRange

end Sys2Proof.Machine
end

section
/-! PROOFS. The shared operations and the examination of a request keep the bounds (O56): what changes no bounded block goes by its frame. -/

namespace Sys2Proof.Machine

set_option Elab.async false

/-! ### Sealing and beginning slots -/

theorem keepsBounds_sealSlot (i : SlotIx) (s : State) : KeepsBounds s (sealSlot i s) := by
  unfold sealSlot; split
  · split
    · exact (keepsBounds_putSlot i fun _ => rfl).trans (.of_frame (frame_setDrain _ _))
    · exact .refl s
  · exact .refl s

theorem keepsBounds_sealAll (s : State) : KeepsBounds s (sealAll s) :=
  .foldl _ (fun t i => keepsBounds_sealSlot i t) _ s

theorem keepsBounds_sealLine (l : Line) (s : State) : KeepsBounds s (sealLine l s) := by
  unfold sealLine; split
  · exact keepsBounds_sealSlot _ s
  · exact .refl s

theorem keepsBounds_pressureSeal (s : State) : KeepsBounds s (pressureSeal s) := by
  unfold pressureSeal; split
  · exact keepsBounds_sealSlot _ s
  · exact .refl s

theorem keepsBounds_beginSlot (i : SlotIx) (s : State) : KeepsBounds s (beginSlot i s) := by
  unfold beginSlot; split
  · exact (keepsBounds_putSlot i fun _ => rfl).trans (.of_frame (frame_offer _ _ _))
  · exact .refl s

theorem keepsBounds_drainTest (s : State) : KeepsBounds s (drainTest s) := by
  unfold drainTest; split
  · exact .refl s
  · split
    · exact keepsBounds_beginSlot _ s
    · exact .refl s

/-! ### The prefetch buffer -/

theorem keepsBounds_trigger (l : Line) (w : Fin 8) (s : State) : KeepsBounds s (trigger l w s) := by
  unfold trigger; split
  · split
    · exact ((keepsBounds_putPf _ _ s).trans (keepsBounds_markMru _ _)).trans (.of_frame (frame_offer _ _ _))
    · exact .refl s
  · exact .refl s

theorem keepsBounds_readTrigger (r : ReadRecord) (s : State) : KeepsBounds s (readTrigger r s) := by
  unfold readTrigger; split
  · split
    · exact keepsBounds_trigger _ _ s
    · exact .refl s
  · exact .refl s

theorem keepsBounds_spoilEntry (e : PfIx) (s : State) : KeepsBounds s (spoilEntry e s) := by
  unfold spoilEntry; split
  · exact .refl s
  · split
    · exact keepsBounds_emptyPf _ s
    · exact ((KeepsBounds.of_frame (frame_withdraw _ _ s)).trans (keepsBounds_emptyPf _ _)).trans
        (.of_frame (frame_fallBackAll _ _))
    · exact keepsBounds_putPf _ _ s
    · exact .refl s

theorem keepsBounds_writeReport (l : Line) (s : State) : KeepsBounds s (writeReport l s) := by
  unfold writeReport; split
  · exact keepsBounds_spoilEntry _ s
  · exact .refl s

/-- R112: the order at the end of an invalidate request is made of the one before it. -/
theorem keepsBounds_invalidate (s : State) : KeepsBounds s (invalidate s) :=
  .of_block .pf (frame_invalidate s) fun h => toLru_whole (allPf.filter (invalidateEmpties s)) h.recency

/-! ### Reads -/

theorem keepsBounds_joinRead (r : ReadRecord) (e : PfIx) (x : PfEntry) (st : PfState) (s : State) :
    KeepsBounds s (joinRead r e x st s) :=
  (keepsBounds_putPf _ _ s).trans (.of_frame (frame_putRead _ _))

theorem keepsBounds_serveRead (r : ReadRecord) (e : PfIx) (d : Lanes) (s : State) :
    KeepsBounds s (serveRead r e d s) :=
  ((keepsBounds_answerRead _ s).trans (keepsBounds_markMru _ _)).trans (keepsBounds_readTrigger _ _)

theorem keepsBounds_routeRead (r : ReadRecord) (s : State) : KeepsBounds s (routeRead r s) := by
  have demand : KeepsBounds s (demandRead r s) := .of_frame (frame_demandRead r s)
  unfold routeRead; split
  · split
    · exact demand
    · split
      · exact demand
      · split
        · exact keepsBounds_serveRead _ _ _ s
        · exact keepsBounds_joinRead _ _ _ _ s
        · exact keepsBounds_joinRead _ _ _ _ s
        · exact demand
  · exact demand

theorem keepsBounds_releaseRead (i : SlotIx) (t : Tag) (s : State) : KeepsBounds s (releaseRead i t s) := by
  unfold releaseRead; split
  · exact .refl s
  · split
    · split
      · dsimp only
        split
        · exact keepsBounds_routeRead _ s
        · exact .of_frame (frame_putRead _ s)
      · exact .refl s
    all_goals exact .refl s

theorem keepsBounds_releaseReads (i : SlotIx) (s : State) : KeepsBounds s (releaseReads i s) :=
  .foldl _ (fun u t => keepsBounds_releaseRead i t u) _ s

theorem keepsBounds_answerJoined (d : Lanes) (s : State) (t : Tag) : KeepsBounds s (answerJoined d s t) := by
  unfold answerJoined; split
  · exact keepsBounds_answerRead _ s
  · exact .refl s

theorem keepsBounds_answerJoins (d : Lanes) (ts : List Tag) (s : State) : KeepsBounds s (answerJoins d ts s) :=
  .foldl _ (keepsBounds_answerJoined d) ts s

/-! ### The end of a slot -/

theorem keepsBounds_completeSlot (i : SlotIx) (x : Slot) (s : State) : KeepsBounds s (completeSlot i x s) :=
  ((((KeepsBounds.of_frame (frame_answerWaiters x s)).trans (keepsBounds_emptySlot i _)).trans
    (keepsBounds_releaseReads i _)).trans (keepsBounds_fenceTest _)).trans (.of_frame (frame_directTest _))

theorem keepsBounds_completeIfResolved (i : SlotIx) (s : State) : KeepsBounds s (completeIfResolved i s) := by
  unfold completeIfResolved; split
  · split
    · exact keepsBounds_completeSlot _ _ s
    · exact .refl s
  · exact .refl s

/-- A slot with a marked piece is DRAINING and has no hold timer (R18). -/
theorem keepsBounds_mark (i : SlotIx) (x : Slot) (k : Nat) (o : PieceOutcome) (s : State) :
    KeepsBounds s (putSlot i (some (x.mark k o)) s) :=
  keepsBounds_putSlot i fun _ => rfl

theorem keepsBounds_pieceDone (i : SlotIx) (k : Fin 8) (s : State) : KeepsBounds s (pieceDone i k s) := by
  unfold pieceDone; split
  · split
    · exact (keepsBounds_mark _ _ _ _ s).trans (keepsBounds_completeIfResolved _ _)
    · exact .refl s
  · exact .refl s

theorem keepsBounds_pieceLost (i : SlotIx) (k : Fin 8) (cause : LossCause) (a : Nat) (s : State) :
    KeepsBounds s (pieceLost i k cause a s) := by
  unfold pieceLost; split
  · split
    · exact ((keepsBounds_mark _ _ _ _ s).trans (keepsBounds_reportLoss _ _)).trans
        (keepsBounds_completeIfResolved _ _)
    · exact .refl s
  · exact .refl s

/-! ### The quiesce controller -/

theorem keepsBounds_applyCommit (s : State) : KeepsBounds s (applyCommit s) :=
  ((((KeepsBounds.of_frame (frame_setWin s _)).trans (keepsBounds_invalidate _)).trans
    (.of_frame (frame_setQuiesce _ _))).trans (.of_frame (frame_setResult _ _))).trans
      (.of_frame (frame_setIrqBit _ _))

theorem keepsBounds_enterQuiet (s : State) : KeepsBounds s (enterQuiet s) := by
  have acknowledged : ∀ u : State,
      KeepsBounds u (if u.quiesce.drainHeld then u.setQuiesce { u.quiesce with drnAck := true } else returnToRun u) :=
    fun u => by
      split
      · exact .of_frame (frame_setQuiesce u _)
      · exact .of_frame (frame_returnToRun u)
  have quiet : KeepsBounds s (s.setQuiesce { s.quiesce with state := .quiet }) := .of_frame (frame_setQuiesce s _)
  refine .trans (quiet.trans ?_) (acknowledged _)
  split
  · exact keepsBounds_applyCommit _
  · exact .refl _

theorem keepsBounds_quietTest (s : State) : KeepsBounds s (quietTest s) := by
  unfold quietTest; split
  · exact keepsBounds_enterQuiet s
  · exact .refl s

theorem keepsBounds_quiesceStart (s : State) : KeepsBounds s (quiesceStart s) :=
  (((keepsBounds_sealAll s).trans (keepsBounds_invalidate _)).trans (.of_frame (frame_setQuiesce _ _))).trans
    (keepsBounds_quietTest _)

/-! ### Acceptance -/

theorem keepsBounds_takeHead (s : State) : KeepsBounds s (takeHead s) := .of_frame (frame_takeHead s)

theorem keepsBounds_mergeSlot (i : SlotIx) (r : Request) (s : State) : KeepsBounds s (mergeSlot i r s) := by
  unfold mergeSlot; split
  · next x hx => exact keepsBounds_putSlot_samePhase hx rfl
  · exact .refl s

theorem keepsBounds_addWaiter (i : SlotIx) (t : Tag) (s : State) : KeepsBounds s (addWaiter i t s) := by
  unfold addWaiter; split
  · next x hx => exact keepsBounds_putSlot_samePhase hx rfl
  · exact .refl s

theorem keepsBounds_answerWrite (i : SlotIx) (r : Request) (s : State) : KeepsBounds s (answerWrite i r s) := by
  unfold answerWrite; split
  · exact (keepsBounds_addWaiter _ _ s).trans (.of_frame (frame_setTag _ _ _))
  · exact .of_frame (frame_pushResponse _ s)

theorem keepsBounds_sealTriggers (i : SlotIx) (r : Request) (c : Classification) (s : State) :
    KeepsBounds s (sealTriggers i r c s) := by
  unfold sealTriggers; split
  · exact keepsBounds_sealSlot i s
  · exact .refl s

theorem keepsBounds_finishWrite (i : SlotIx) (r : Request) (c : Classification) (s : State) :
    KeepsBounds s (finishWrite i r c s) :=
  ((keepsBounds_answerWrite i r s).trans (keepsBounds_sealTriggers i r c _)).trans (keepsBounds_writeReport _ _)

theorem keepsBounds_acceptWrite (m : IReqMsg) (r : Request) (c : Classification) (s : State) :
    KeepsBounds s (acceptWrite m r c s) := by
  unfold acceptWrite; split
  · exact ((keepsBounds_takeHead s).trans (keepsBounds_mergeSlot _ r _)).trans (keepsBounds_finishWrite _ r c _)
  · split
    · exact ((keepsBounds_takeHead s).trans (keepsBounds_openSlot _ r c _)).trans (keepsBounds_finishWrite _ r c _)
    · exact (keepsBounds_pressureSeal s).trans (.of_frame (frame_setHead _ _))

theorem keepsBounds_acceptRead (r : Request) (c : Classification) (s : State) : KeepsBounds s (acceptRead r c s) := by
  have taken : KeepsBounds s (setTag r.tag .read (takeHead s)) :=
    (keepsBounds_takeHead s).trans (.of_frame (frame_setTag _ _ _))
  unfold acceptRead
  dsimp only
  split
  · split
    · exact taken.trans (keepsBounds_answerRead _ _)
    · exact (taken.trans (.of_frame (frame_putRead _ _))).trans (keepsBounds_sealLine _ _)
  · exact taken.trans (keepsBounds_routeRead _ _)

/-- R67: a fence is recorded where fewer than four are outstanding. -/
theorem keepsBounds_recordFence {s : State} (t : Tag) (room : s.fence.list.length < 4) :
    KeepsBounds s (recordFence t s) := by
  have same : (sealAll s).fence = s.fence := (frame_sealAll s).same .fence
  refine (keepsBounds_sealAll s).trans (.of_block .fence (frame_setFence _ _) fun _ => ?_)
  change ((sealAll s).fence.list ++ [_]).length ≤ 4
  rw [same, List.length_append]
  exact room

theorem keepsBounds_acceptFence (m : IReqMsg) (r : Request) (s : State) : KeepsBounds s (acceptFence m r s) := by
  unfold acceptFence; split
  · next room =>
    exact (((keepsBounds_takeHead s).trans (.of_frame (frame_setTag _ _ _))).trans
      (keepsBounds_recordFence r.tag room)).trans (keepsBounds_fenceTest _)
  · exact .of_frame (frame_setHead _ s)

theorem keepsBounds_acceptDirect (op : AccessOp) (r : Request) (c : Classification) (s : State) :
    KeepsBounds s (acceptDirect op r c s) := by
  have sealed : KeepsBounds s (sealAll (putRead (directRecord op r c) (setTag r.tag (.direct op) (takeHead s)))) :=
    (((keepsBounds_takeHead s).trans (.of_frame (frame_setTag _ _ _))).trans (.of_frame (frame_putRead _ _))).trans
      (keepsBounds_sealAll _)
  cases op with
  | read => exact sealed.trans (.of_frame (frame_directTest _))
  | write => exact (sealed.trans (keepsBounds_writeReport _ _)).trans (.of_frame (frame_directTest _))

theorem keepsBounds_dispatchAccess (op : AccessOp) (m : IReqMsg) (r : Request) (s : State) :
    KeepsBounds s (dispatchAccess op m r s) := by
  unfold dispatchAccess
  dsimp only
  split
  · exact .of_frame (frame_rejectRequest r s)
  · exact keepsBounds_acceptDirect _ r _ s
  · exact keepsBounds_acceptWrite m r _ s
  · exact keepsBounds_acceptWrite m r _ s
  · exact keepsBounds_acceptRead r _ s
  · exact keepsBounds_acceptRead r _ s

theorem keepsBounds_dispatch (m : IReqMsg) (r : Request) (s : State) : KeepsBounds s (dispatch m r s) := by
  unfold dispatch; split
  · exact keepsBounds_acceptFence m r s
  · exact keepsBounds_dispatchAccess _ m r s
  · exact keepsBounds_dispatchAccess _ m r s
  · exact .refl s

theorem keepsBounds_examine (m : IReqMsg) (s : State) : KeepsBounds s (examine m s) := by
  unfold examine
  dsimp only
  split
  · exact .of_frame (frame_setHead _ s)
  · split
    · exact .of_frame (frame_dropInUse _ s)
    · split
      · exact .of_frame (frame_answerMalformed _ _ s)
      · exact keepsBounds_dispatch m _ s

theorem keepsBounds_reexamine (s0 s : State) : KeepsBounds s (reexamine s0 s) := by
  unfold reexamine; split
  · split
    · exact keepsBounds_examine _ s
    · exact .refl s
  · exact .refl s

theorem keepsBounds_finishEvent (s0 s : State) : KeepsBounds s (finishEvent s0 s) :=
  (keepsBounds_reexamine s0 s).trans (keepsBounds_drainTest _)

theorem keepsBounds_settle (s0 s : State) : KeepsBounds s (settle s0 s) :=
  (keepsBounds_quietTest s).trans (keepsBounds_finishEvent s0 _)

theorem keepsBounds_present (msg : Option IReqMsg) (s : State) : KeepsBounds s (present msg s) := by
  unfold present; split
  · exact (keepsBounds_examine _ s).trans (keepsBounds_drainTest _)
  · exact .of_frame (frame_setHead none s)

end Sys2Proof.Machine
end

section
/-! PROOFS. Every event keeps the bounds (O56): grants, reports, timers, resets, the port. -/

namespace Sys2Proof.Machine

set_option Elab.async false

/-! ### Grants -/

/-- R119: an entry is ISSUED with its response timer loaded. -/
theorem keepsBounds_send (m : MemTag) (req : MemRequest) {a : Nat} {s : State} (ha : Bounded s → a ≤ 15) :
    KeepsBounds s (send m req a s) :=
  (keepsBounds_putEntry m fun h => issued_inRange h.thresholds req (ha h)).trans (.of_frame (frame_setWires _ _))

theorem keepsBounds_sendFirst (req : MemRequest) (s : State) : KeepsBounds s (sendFirst req s) := by
  unfold sendFirst; split
  · exact keepsBounds_send _ req fun _ => Nat.zero_le _
  · exact .refl s

theorem keepsBounds_grantPiece (i : SlotIx) (x : Slot) (k : Nat) (p : Piece) (s : State) :
    KeepsBounds s (grantPiece i x k p s) := by
  have issued := fun req => (keepsBounds_sendFirst req s).trans (keepsBounds_mark i x k .issued _)
  unfold grantPiece
  dsimp only
  split
  · exact (issued _).trans (.of_frame (frame_offer _ _ _))
  · exact (issued _).trans (keepsBounds_drainTest _)

theorem keepsBounds_grantDrainHead (s : State) : KeepsBounds s (grantDrainHead s) := by
  unfold grantDrainHead; split
  · exact .refl s
  · split
    · exact .refl s
    · split
      · exact keepsBounds_grantPiece _ _ _ _ s
      · exact .refl s

theorem keepsBounds_grantRead (t : Tag) (s : State) : KeepsBounds s (grantRead t s) := by
  unfold grantRead; split
  · exact ((keepsBounds_sendFirst _ s).trans (.of_frame (frame_putRead _ _))).trans (keepsBounds_readTrigger _ _)
  · exact .refl s

theorem keepsBounds_grantDirectPiece (r : ReadRecord) (d : Lanes) (ps : List Piece) (k : Nat) (p : Piece)
    (s : State) : KeepsBounds s (grantDirectPiece r d ps k p s) := by
  have issued := fun req q => (keepsBounds_sendFirst req s).trans (.of_frame (frame_putRead q _))
  unfold grantDirectPiece
  dsimp only
  split
  · exact (issued _ _).trans (.of_frame (frame_offer _ _ _))
  · exact issued _ _

theorem keepsBounds_grantDirect (s : State) : KeepsBounds s (grantDirect s) := by
  unfold grantDirect; split
  · exact .refl s
  · split
    · exact keepsBounds_sendFirst _ s
    · split
      · exact .refl s
      · split
        · exact keepsBounds_grantDirectPiece _ _ _ _ _ s
        · exact .refl s

theorem keepsBounds_grantPrefetch (e : PfIx) (s : State) : KeepsBounds s (grantPrefetch e s) := by
  unfold grantPrefetch; split
  · exact .refl s
  · split
    · exact (keepsBounds_sendFirst _ s).trans (keepsBounds_putPf _ _ _)
    all_goals exact .refl s

/-- R124: a re-issue keeps the attempts count of its entry. -/
theorem keepsBounds_grantReissue (m : MemTag) (s : State) : KeepsBounds s (grantReissue m s) := by
  unfold grantReissue; split
  · next req a offered =>
    refine keepsBounds_send m req fun h => ?_
    have counts : 1 ≤ a ∧ a ≤ 15 := by simpa [offered, TrackerEntry.countsInRange] using h.entries m
    exact counts.2
  all_goals exact .refl s

theorem keepsBounds_grantStep (s : State) : KeepsBounds s (grantStep s) := by
  unfold grantStep; split
  · split
    · next c r _ =>
      refine (KeepsBounds.of_frame (frame_withdraw c r s)).trans ?_
      unfold grantRequest; split
      · exact keepsBounds_grantDrainHead _
      · exact keepsBounds_grantRead _ _
      · exact keepsBounds_grantDirect _
      · exact keepsBounds_grantPrefetch _ _
      · exact keepsBounds_grantReissue _ _
    · exact .refl s
  · exact .refl s

/-! ### The tracker's reports -/

theorem keepsBounds_prefetchDone (e : PfIx) (d : Lanes) (s : State) : KeepsBounds s (prefetchDone e d s) := by
  unfold prefetchDone; split
  · exact .refl s
  · split
    · unfold prefetchArrived
      dsimp only
      have answered := fun x joins => ((keepsBounds_putPf e x s).trans (keepsBounds_markMru e _)).trans
        (keepsBounds_answerJoins d joins _)
      split
      · exact answered _ _
      · exact (answered _ _).trans (keepsBounds_trigger _ _ _)
    · exact (keepsBounds_answerJoins _ _ s).trans (keepsBounds_emptyPf _ _)
    all_goals exact .refl s

theorem keepsBounds_prefetchLost (e : PfIx) (s : State) : KeepsBounds s (prefetchLost e s) := by
  have fallen := fun joins => (keepsBounds_emptyPf [e] s).trans (.of_frame (frame_fallBackAll joins _))
  unfold prefetchLost; split
  · exact .refl s
  · split
    · exact fallen _
    · exact fallen _
    all_goals exact .refl s

theorem keepsBounds_directPieceEnds (r : ReadRecord) (ps : List Piece) (k : Fin 8) (o : PieceOutcome) (s : State) :
    KeepsBounds s (directPieceEnds r ps k o s) := by
  unfold directPieceEnds
  dsimp only
  split
  · exact keepsBounds_answerRead _ s
  · exact .of_frame (frame_putRead _ s)

theorem keepsBounds_directReport (t : Tag) (k : Fin 8) (f : ReadRecord → Response) (o : PieceOutcome) (s : State) :
    KeepsBounds s (directReport t k f o s) := by
  unfold directReport; split
  · exact .refl s
  · split
    · exact keepsBounds_answerRead _ s
    · split
      · exact keepsBounds_directPieceEnds _ _ _ _ s
      · exact .refl s

theorem keepsBounds_reportDone (req : MemRequest) (d : Lanes) (s : State) : KeepsBounds s (reportDone req d s) := by
  unfold reportDone; split
  · exact keepsBounds_pieceDone _ _ s
  · exact keepsBounds_answerJoined d s _
  · exact keepsBounds_directReport _ _ _ _ s
  · exact keepsBounds_prefetchDone _ d s

theorem keepsBounds_reportGiveUp (req : MemRequest) (cause : LossCause) (a : Nat) (s : State) :
    KeepsBounds s (reportGiveUp req cause a s) := by
  unfold reportGiveUp; split
  · exact keepsBounds_pieceLost _ _ _ _ s
  · unfold readLost; split
    · exact keepsBounds_answerRead _ s
    · exact .refl s
  · exact keepsBounds_directReport _ _ _ _ s
  · exact keepsBounds_prefetchLost _ s

theorem keepsBounds_doneIssued (m : MemTag) (req : MemRequest) (d : Lanes) (s : State) :
    KeepsBounds s (doneIssued m req d s) :=
  ((keepsBounds_reportDone req d s).trans (keepsBounds_putEntry m fun _ => rfl)).trans (keepsBounds_settle s _)

theorem keepsBounds_giveUp (m : MemTag) {after : TrackerEntry} (ha : after.countsInRange = true) (req : MemRequest)
    (cause : LossCause) (a : Nat) (s : State) : KeepsBounds s (giveUp m after req cause a s) :=
  ((keepsBounds_reportGiveUp req cause a s).trans (keepsBounds_putEntry m fun _ => ha)).trans
    (keepsBounds_settle s _)

theorem keepsBounds_absorb (m : MemTag) (s : State) : KeepsBounds s (absorb m s) :=
  ((keepsBounds_putEntry (x := .free) m fun _ => rfl).trans
    (keepsBounds_setTrk (x := { (putEntry m .free s).trk with lateCount := bumpCount s.trk.lateCount }) rfl)).trans
      (.of_frame (frame_setIrqBit .late _))

theorem keepsBounds_offerMemoryError (k : MemoryError) (m : MemTag) (s : State) :
    KeepsBounds s (offerMemoryError k m s) := by
  unfold offerMemoryError; split
  · exact keepsBounds_setTrk rfl
  · exact .refl s

theorem keepsBounds_stray (m : MemTag) (s : State) : KeepsBounds s (stray m s) :=
  (keepsBounds_offerMemoryError _ m s).trans (.of_frame (frame_setIrqBit _ _))

theorem keepsBounds_badResponse (m : MemTag) (s : State) : KeepsBounds s (badResponse m s) :=
  (keepsBounds_offerMemoryError _ m s).trans (.of_frame (frame_setIrqBit _ _))

theorem keepsBounds_takeDone (m : MemTag) (d : Lanes) (s : State) : KeepsBounds s (takeDone m d s) := by
  unfold takeDone; split
  · exact keepsBounds_doneIssued m _ d s
  · exact keepsBounds_absorb m s
  all_goals exact keepsBounds_stray m s

/-- R122: beyond the retry limit, at most 15, the request is given up. -/
theorem keepsBounds_deferIssued (m : MemTag) (req : MemRequest) {a : Nat} (pos : 1 ≤ a) (s : State) :
    KeepsBounds s (deferIssued m req a s) := by
  unfold deferIssued; split
  · exact keepsBounds_giveUp m rfl req _ a s
  · next within =>
    have limit : a ≤ s.cfg.retryLimit.toNat := by
      simp only [Bool.or_eq_true, decide_eq_true_eq, not_or, not_lt] at within
      exact within.2
    exact keepsBounds_putEntry m fun h => backoff_inRange h.thresholds req pos limit

theorem keepsBounds_takeDefer (m : MemTag) (s : State) : KeepsBounds s (takeDefer m s) := by
  unfold takeDefer; split
  · exact keepsBounds_deferIssued m _ (Nat.succ_pos _) s
  · exact keepsBounds_absorb m s
  all_goals exact keepsBounds_stray m s

theorem keepsBounds_takeFault (m : MemTag) (s : State) : KeepsBounds s (takeFault m s) := by
  unfold takeFault; split
  · exact keepsBounds_giveUp m rfl _ _ _ s
  · exact keepsBounds_absorb m s
  all_goals exact keepsBounds_stray m s

/-! ### Timers -/

theorem keepsBounds_responseExpires (m : MemTag) (s : State) : KeepsBounds s (responseExpires m s) := by
  unfold responseExpires; split
  · split
    · exact fun h => keepsBounds_giveUp m (late_inRange h.thresholds) _ _ _ s h
    · exact .refl s
  all_goals exact .refl s

/-- R124: an offered re-issue keeps the attempts count. -/
theorem keepsBounds_backoffExpires (m : MemTag) (s : State) : KeepsBounds s (backoffExpires m s) := by
  unfold backoffExpires; split
  · next req a n waiting =>
    split
    · refine .trans (keepsBounds_putEntry m fun h => ?_) (.of_frame (frame_offer _ _ _))
      have counts := h.entries m
      simp only [waiting, TrackerEntry.countsInRange, Bool.and_eq_true] at counts ⊢
      obtain ⟨⟨attempts, -⟩, -⟩ := counts
      exact attempts
    · exact .refl s
  all_goals exact .refl s

theorem keepsBounds_reclaimExpires (m : MemTag) (s : State) : KeepsBounds s (reclaimExpires m s) := by
  unfold reclaimExpires; split
  · split
    · exact keepsBounds_putEntry m fun _ => rfl
    · exact .refl s
  all_goals exact .refl s

theorem keepsBounds_entryExpires (m : MemTag) (s : State) : KeepsBounds s (entryExpires m s) := by
  unfold entryExpires; split
  · exact keepsBounds_responseExpires m s
  · exact keepsBounds_backoffExpires m s
  · exact keepsBounds_reclaimExpires m s
  all_goals exact .refl s

theorem keepsBounds_holdExpires (i : SlotIx) (s : State) : KeepsBounds s (holdExpires i s) := by
  unfold holdExpires; split
  · split
    · split
      · exact (keepsBounds_sealSlot i s).trans (keepsBounds_drainTest _)
      · exact .refl s
    all_goals exact .refl s
  · exact .refl s

theorem keepsBounds_tick (s : State) : KeepsBounds s (tick s) :=
  (keepsBounds_countTick s).trans
    ((KeepsBounds.foldl _ (fun u i => keepsBounds_holdExpires i u) _ _).trans
      (.foldl _ (fun u m => keepsBounds_entryExpires m u) _ _))

/-! ### Resets -/

/-- R113: the recency order after a reset. -/
theorem reset_recency : PrefetchBuffer.reset.recency.Nodup ∧ ∀ e, e ∈ PrefetchBuffer.reset.recency := by decide

theorem keepsBounds_resetSettled (s : State) : KeepsBounds s (resetSettled s) :=
  ((KeepsBounds.of_block .fence (frame_setFence s { s.fence with epoch := 0, loss := false }) fun h => h.fences).trans
    (.of_block .pf (frame_setPf _ PrefetchBuffer.reset) fun _ => reset_recency)).trans
      (.of_frame (frame_setArb _ { s.arb with prefetch := [] }))

theorem keepsBounds_takeDpReset (s : State) : KeepsBounds s (takeDpReset s) := by
  unfold takeDpReset; split
  · exact (KeepsBounds.of_frame (frame_setResult .done s)).trans (keepsBounds_resetSettled _)
  · exact .of_frame (frame_setResult _ s)

/-- R44: the loss records go to the log one by one, and every slot is emptied. -/
theorem keepsBounds_discardSlots (s : State) : KeepsBounds s (discardSlots s) := by
  have logged : ∀ u i, KeepsBounds u (discardSlot u i) := fun u i => by
    unfold discardSlot; split
    · exact keepsBounds_addLoss _ u
    · exact .refl u
  have emptied : HoldsInRange (discardSlots s) := fun i x hx => by simp [discardSlots_empty] at hx
  exact (KeepsBounds.foldl _ logged s.buf.ages s).trans (.of_block .buf (frame_setBuf _ _) fun _ => emptied)

theorem keepsBounds_forceUnits (s : State) : KeepsBounds s (forceUnits s) :=
  (((KeepsBounds.of_frame (frame_setDrain s _)).trans
    (.of_block .fence (frame_setFence _ _) fun _ => Nat.zero_le _)).trans (.of_frame (frame_setRd _ _))).trans
      (.of_block .pf (frame_setPf _ _) fun _ => reset_recency)

theorem force_countsInRange {n : Nat} (hn : (TrackerEntry.late n).countsInRange = true) (x : TrackerEntry)
    (hx : x.countsInRange = true) : (x.force n).countsInRange = true := by
  cases x with
  | issued req a k => exact hn
  | backoffWaiting req a k => rfl
  | backoffOffered req a => rfl
  | late k => exact hx
  | free => rfl

/-- R139: an ISSUED entry becomes LATE with the reclaim timer loaded. -/
theorem keepsBounds_forceTracker (s : State) : KeepsBounds s (forceTracker s) :=
  .of_block .trk (frame_setTrk s _) fun h =>
    h.entries.map (f := TrackerEntry.force (reclaimTicks s)) (by simp [entryAt, forceTracker])
      (force_countsInRange (late_inRange h.thresholds))

theorem keepsBounds_takeDpResetForce (s : State) : KeepsBounds s (takeDpResetForce s) := by
  have answered : KeepsBounds s (answerAllReset (setResult .done s)) :=
    (KeepsBounds.of_frame (frame_setResult .done s)).trans (.of_frame (Frame.foldl _ frame_answerReset allTags _))
  exact ((((((answered.trans (keepsBounds_discardSlots _)).trans (keepsBounds_forceUnits _)).trans
    (.of_frame (frame_setArb _ _))).trans (keepsBounds_forceTracker _)).trans
      (.of_frame (frame_forceQuiesce _))).trans (keepsBounds_finishEvent s _))

theorem bounded_resetHeld (s : State) : Bounded (resetHeld s) := by
  have thresholds : ThresholdsInRange State.reset := by unfold ThresholdsInRange; decide
  refine ⟨Nat.zero_le _, Nat.zero_le _, reset_recency, thresholds, fun m => ?_, fun i x hx => ?_⟩
  · have free : entryAt (resetHeld s) m = .free := Vector.getElem_replicate (n := 16) m.isLt
    exact free ▸ rfl
  · have empty : slotAt (resetHeld s) i = none := Vector.getElem_replicate (n := 16) i.isLt
    simp [empty] at hx

theorem bounded_powerOn (held : Bool) (straps : BitVec 2) (drnReq : Bool) (s : State) :
    Bounded (powerOn held straps drnReq s) := by
  have ended : Bounded { resetHeld s with port := { (resetHeld s).port with straps := straps }, inReset := false } :=
    bounded_resetHeld s
  unfold powerOn; split
  · exact bounded_resetHeld s
  · unfold resetEnds
    dsimp only
    split
    · exact keepsBounds_quiesceStart _ ((KeepsBounds.of_frame (frame_setQuiesce _ _)) ended)
    · exact ended

/-! ### The management port and the drain line -/

theorem keepsBounds_takeCommit (s : State) : KeepsBounds s (takeCommit s) := by
  unfold takeCommit; split
  · exact .of_frame (frame_setResult _ s)
  · split
    · unfold startCommit
      dsimp only
      have pending := (KeepsBounds.of_frame (frame_setQuiesce s { s.quiesce with commitPending := true })).trans
        (.of_frame (frame_setResult .pending _))
      split
      · exact (pending.trans (keepsBounds_quiesceStart _)).trans (keepsBounds_finishEvent s _)
      · exact pending
      · exact pending.trans (keepsBounds_applyCommit _)
    · exact .of_frame (frame_setResult _ s)

theorem keepsBounds_takeProtoClear (s : State) : KeepsBounds s (takeProtoClear s) :=
  ((KeepsBounds.of_frame (frame_setAcc s { s.acc with capture := none })).trans
    (keepsBounds_setTrk (x := { s.trk with capture := none }) rfl)).trans (.of_frame (frame_setResult .done _))

theorem keepsBounds_runCommand (code : Byte) (s : State) : KeepsBounds s (runCommand code s) := by
  unfold runCommand; split
  · exact keepsBounds_takeCommit s
  · exact keepsBounds_takeDpReset s
  · exact keepsBounds_takeDpResetForce s
  · exact keepsBounds_takeLogPop s
  · exact keepsBounds_takeLogClearOvf s
  · exact keepsBounds_takeProtoClear s
  · exact .of_frame (frame_setResult _ s)

/-- R190: a threshold takes a byte in its range only. -/
theorem keepsBounds_takeRange {lo hi : Nat} {v : Byte} {x : State → Thresholds} {s : State}
    (inRange : lo ≤ v.toNat → v.toNat ≤ hi → ThresholdsInRange s → ThresholdsInRange (s.setCfg (x s))) :
    KeepsBounds s (takeRange lo hi v (fun t => t.setCfg (x t)) s).2 := by
  unfold takeRange; split
  · next within =>
    simp only [Bool.and_eq_true, decide_eq_true_eq] at within
    exact .of_block .cfg (frame_setCfg s _) fun h => inRange within.1 within.2 h.thresholds
  · exact .refl s

/-- R190: a response timeout of 0 is refused. -/
theorem keepsBounds_takeTimeoutHigh (v : Byte) (s : State) : KeepsBounds s (takeTimeoutHigh v s).2 := by
  have dropped : KeepsBounds s (s.setPort { s.port with heldLow := none }) := .of_frame (frame_setPort s _)
  unfold takeTimeoutHigh
  dsimp only
  split
  · exact dropped
  · next nonzero =>
    refine dropped.trans (.of_block .cfg (frame_setCfg _ _) fun h => ?_)
    obtain ⟨watermark, promotion, limit, base, -⟩ := h.thresholds
    exact ⟨watermark, promotion, limit, base,
      Nat.one_le_iff_ne_zero.2 fun e => nonzero (BitVec.eq_of_toNat_eq e)⟩

theorem keepsBounds_writeReg (i v : Byte) (s : State) : KeepsBounds s (writeReg i v s).2 := by
  unfold writeReg; split
  · exact .of_frame (frame_takeStaged i v s)
  · split
    · exact keepsBounds_takeRange fun lo hi ⟨_, rest⟩ => ⟨⟨lo, hi⟩, rest⟩
    · exact keepsBounds_takeRange fun lo _ ⟨watermark, _, rest⟩ => ⟨watermark, lo, rest⟩
    · exact keepsBounds_takeRange fun _ hi ⟨watermark, promotion, _, rest⟩ => ⟨watermark, promotion, hi, rest⟩
    · exact keepsBounds_takeRange fun lo hi ⟨watermark, promotion, limit, _, timeout⟩ =>
        ⟨watermark, promotion, limit, ⟨lo, hi⟩, timeout⟩
    · exact .of_frame (frame_setPort s _)
    · exact keepsBounds_takeTimeoutHigh v s
    · exact .of_frame (frame_setWin s _)
    · exact keepsBounds_runCommand v s
    · exact .of_frame (frame_setIrq s _)
    · exact .of_frame (frame_setIrq s _)
    · exact .refl s

theorem keepsBounds_dataByte (v : Byte) (s : State) : KeepsBounds s (dataByte v s) := by
  unfold dataByte; split
  · unfold takeByte
    dsimp only
    split
    · exact (keepsBounds_writeReg _ v s).trans (.of_frame (frame_ackByte _))
    · exact (keepsBounds_writeReg _ v s).trans (.of_frame (frame_nackByte _))
  all_goals exact .of_frame (frame_noAck s)

theorem keepsBounds_portWrite (follows : Bool) (i v : Byte) (s : State) : KeepsBounds s (portWrite follows i v s) := by
  unfold portWrite; split
  · exact keepsBounds_dataByte v s
  · exact (KeepsBounds.of_frame (frame_beginWrite i s)).trans (keepsBounds_dataByte v _)

theorem keepsBounds_drainRises (s : State) : KeepsBounds s (drainRises s) := by
  have held : KeepsBounds s (s.setQuiesce { s.quiesce with drainHeld := true }) := .of_frame (frame_setQuiesce s _)
  unfold drainRises
  dsimp only
  split
  · exact (held.trans (keepsBounds_quiesceStart _)).trans (keepsBounds_finishEvent s _)
  all_goals exact held

theorem keepsBounds_drainFalls (s : State) : KeepsBounds s (drainFalls s) := by
  have clear : KeepsBounds s (s.setQuiesce { s.quiesce with drainHeld := false }) := .of_frame (frame_setQuiesce s _)
  have ends := (clear.trans (.of_frame (frame_returnToRun _))).trans (keepsBounds_finishEvent s _)
  unfold drainFalls
  dsimp only
  split
  · exact clear
  · split
    · exact clear
    · exact ends
  · exact ends

/-! ### Commands and steps -/

theorem event_keepsBounds {s t : State} {f : State → State} (hf : ∀ u, KeepsBounds u (f u))
    (he : event s f = .next t) : KeepsBounds s t := by
  have idle : KeepsBounds s (s.setWires Wires.idle) := .of_frame (frame_setWires s _)
  unfold event at he
  dsimp only at he
  split at he <;> obtain rfl := Host.Outcome.next.inj he
  · exact idle
  · exact idle.trans (hf _)

theorem keepsBounds_setReady (level : Bool) (s : State) : KeepsBounds s (setReady level s) :=
  (KeepsBounds.of_frame (frame_setWires s Wires.idle)).trans (.of_frame (frame_setArb _ _))

/-- Every command keeps the bounds. -/
theorem exec_keepsBounds {c : Instr} {s t : State} (h : exec c s = .next t) : KeepsBounds s t := by
  cases c with
  | requestPresented msg => exact event_keepsBounds (keepsBounds_present msg) h
  | responseSent => exact event_keepsBounds (fun u => .of_frame (frame_sendResponse u)) h
  | holdTimerExpiry i => exact event_keepsBounds (keepsBounds_holdExpires i) h
  | mreqReadyRise => exact Host.Outcome.next.inj h ▸ keepsBounds_setReady true s
  | mreqReadyFall => exact Host.Outcome.next.inj h ▸ keepsBounds_setReady false s
  | grant => exact event_keepsBounds keepsBounds_grantStep h
  | done m d => exact event_keepsBounds (keepsBounds_takeDone m d) h
  | defer m => exact event_keepsBounds (keepsBounds_takeDefer m) h
  | fault m => exact event_keepsBounds (keepsBounds_takeFault m) h
  | badResp m => exact event_keepsBounds (keepsBounds_badResponse m) h
  | responseTimerExpiry m => exact event_keepsBounds (keepsBounds_responseExpires m) h
  | backoffTimerExpiry m => exact event_keepsBounds (keepsBounds_backoffExpires m) h
  | reclaimTimerExpiry m => exact event_keepsBounds (keepsBounds_reclaimExpires m) h
  | drnReqRise => exact event_keepsBounds keepsBounds_drainRises h
  | drnReqFall => exact event_keepsBounds keepsBounds_drainFalls h
  | commit f => exact event_keepsBounds (keepsBounds_portWrite f _ _) h
  | dpReset f => exact event_keepsBounds (keepsBounds_portWrite f _ _) h
  | dpResetForce f => exact event_keepsBounds (keepsBounds_portWrite f _ _) h
  | logPop f => exact event_keepsBounds (keepsBounds_portWrite f _ _) h
  | logClearOvf f => exact event_keepsBounds (keepsBounds_portWrite f _ _) h
  | protoClear f => exact event_keepsBounds (keepsBounds_portWrite f _ _) h
  | unknownCommand code f => exact event_keepsBounds (keepsBounds_portWrite f _ code) h
  | interruptStatusWrite v f => exact event_keepsBounds (keepsBounds_portWrite f _ v) h
  | interruptMaskWrite v f => exact event_keepsBounds (keepsBounds_portWrite f _ v) h
  | responseTimeoutLowWrite v f => exact event_keepsBounds (keepsBounds_portWrite f _ v) h
  | responseTimeoutHighWrite v f => exact event_keepsBounds (keepsBounds_portWrite f _ v) h
  | stagedTableWrite i v f => exact event_keepsBounds (keepsBounds_portWrite f i v) h
  | registerWrite i v f => exact event_keepsBounds (keepsBounds_portWrite f i v) h
  | indexPointerWrite a i => exact event_keepsBounds (fun u => .of_frame (frame_pointerWrite a i u)) h
  | logHeadRead a more => exact event_keepsBounds (fun u => .of_frame (frame_portRead a more u)) h
  | powerOnReset held straps d => exact Host.Outcome.next.inj h ▸ fun _ => bounded_powerOn held straps d s
  | ageCountTick => exact event_keepsBounds keepsBounds_tick h
  | readTransfer a more => exact event_keepsBounds (fun u => .of_frame (frame_portRead a more u)) h

/-- Settles O56: each command's event keeps the bounds (`exec_keepsBounds`), and a step is the event of the front
command, or idles. -/
theorem stepKeepsBounds : Obligations.StepKeepsBounds := by
  intro s t h hs
  unfold step at hs
  split at hs
  · exact Host.Outcome.next.inj hs ▸ h
  · next c rest _ => exact (KeepsBounds.of_frame (frame_setPending s rest)).trans (exec_keepsBounds hs) h

end Sys2Proof.Machine
end

section
/-! PROOFS. The fault log and the interrupt registers through the management port: the log's commands (O43), the status and the mask (O45, O46), the log head read from a copy (O51). -/

namespace Sys2Proof.Machine

set_option Elab.async false

/-! ### The commands of the fault log (R169, R170) -/

/-- R169: the result tells whether there was a record to remove. -/
theorem takeLogPop_eq (s : State) :
    takeLogPop s = setResult (if s.flog.records = [] then .refused else .done)
      (s.setFlog { s.flog with records := s.flog.records.tail }) := by
  cases held : s.flog.records with
  | nil =>
    have same : s.setFlog { s.flog with records := [] } = s := by rw [← held]; rfl
    simp [takeLogPop, held, same]
  | cons r rest => simp [takeLogPop, held]

theorem exec_logPop {s : State} {f : Bool} (reset : s.inReset = false) (lands : Lands s f 0x10) :
    exec (.logPop f) s = .next (ackByte (takeLogPop (beginWrite 0x10 (s.setWires Wires.idle)))) :=
  event_portWrite_lands 0x04 reset lands

theorem exec_logClearOvf {s : State} {f : Bool} (reset : s.inReset = false) (lands : Lands s f 0x10) :
    exec (.logClearOvf f) s = .next (ackByte (takeLogClearOvf (beginWrite 0x10 (s.setWires Wires.idle)))) :=
  event_portWrite_lands 0x05 reset lands

/-- Settles O43: the byte that lands runs its command (`exec_logPop`, `exec_logClearOvf`), and LOG_POP goes by whether a
record is held (`takeLogPop_eq`). -/
theorem logCommands : Obligations.LogCommands := by
  intro s f reset lands
  refine ⟨⟨_, exec_logPop reset lands, ?_⟩, ⟨_, exec_logClearOvf reset lands, ?_⟩⟩
  · rw [takeLogPop_eq, ackByte_landed
      (p := { s.port with result := if s.flog.records = [] then .refused else .done }) (i := 0x10) rfl rfl]
    simp only [setResult, beginWrite, State.setPort, State.setFlog, State.setWires, ManagementPort.acked]
  · rw [takeLogClearOvf, ackByte_landed (p := { s.port with result := .done }) (i := 0x10) rfl rfl]
    simp only [setResult, beginWrite, State.setPort, State.setFlog, State.setWires, ManagementPort.acked]

/-! ### The interrupt status and mask (R174, R175) -/

theorem exec_interruptStatusWrite {s : State} {v : Byte} {f : Bool} (reset : s.inReset = false)
    (lands : Lands s f 0x18) :
    exec (.interruptStatusWrite v f) s = .next (ackByte (clearStatus v (beginWrite 0x18 (s.setWires Wires.idle)))) :=
  event_portWrite_lands v reset lands

theorem exec_interruptMaskWrite {s : State} {v : Byte} {f : Bool} (reset : s.inReset = false)
    (lands : Lands s f 0x19) :
    exec (.interruptMaskWrite v f) s = .next (ackByte (putMask v (beginWrite 0x19 (s.setWires Wires.idle)))) :=
  event_portWrite_lands v reset lands

/-- R174: a bit stays set where it was set and is not written as 1. -/
theorem clearStatus_getLsbD (v : Byte) (s : State) (k : Nat) :
    (clearStatus v s).irq.status.getLsbD k = (s.irq.status.getLsbD k && !v.getLsbD k) := by
  by_cases low : k < 5
  · simp [clearStatus, low]
  · simp [clearStatus, BitVec.getLsbD_of_ge _ _ (Nat.le_of_not_lt low)]

/-- R175: the status bits that the mask lets through. -/
theorem irqN_eq_false (s : State) :
    irqN s = false ↔ ∃ k, k < 5 ∧ s.irq.status.getLsbD k = true ∧ s.irq.mask.getLsbD k = false := by
  have bit : ∀ k, k < 5 → (s.irq.status &&& ~~~s.irq.mask).getLsbD k =
      (s.irq.status.getLsbD k && !s.irq.mask.getLsbD k) := fun k low => by simp [low]
  constructor
  · intro low
    by_contra clear
    have zero : s.irq.status &&& ~~~s.irq.mask = 0 := BitVec.eq_of_getLsbD_eq fun k hk => by
      rw [bit k hk]
      simpa using fun set => Bool.eq_true_of_not_eq_false fun unmasked => clear ⟨k, hk, set, unmasked⟩
    simp [irqN, zero] at low
  · rintro ⟨k, hk, set, unmasked⟩
    refine beq_eq_false_iff_ne.2 fun zero => ?_
    simpa [zero, set, unmasked] using bit k hk

/-- Settles O46: the line by `irqN_eq_false`, and the byte that lands is the mask (`exec_interruptMaskWrite`). -/
theorem maskDrivesLine : Obligations.MaskDrivesLine := by
  refine ⟨irqN_eq_false, fun s v f reset lands => ?_⟩
  have taken : v.setWidth 5 = v.extractLsb' 0 5 := BitVec.eq_of_getLsbD_eq fun k hk => by simp [hk]
  rw [exec_interruptMaskWrite reset lands, ackByte_landed (p := s.port) (i := 0x19) rfl rfl, putMask, taken]
  simp only [beginWrite, State.setPort, State.setIrq, State.setWires]

/-! ### A byte read (R168, R189, R191) -/

/-- The port takes part in a read transfer, with the copy `old` of the log head so far: this byte begins the transfer,
at the port's own address, or it is the transfer's next one. -/
def Reads (s : State) (start : Option (BitVec 7)) (old : Option (Option LossRecord)) : Prop :=
  start = some (ownAddress s) ∧ old = none ∨ start = none ∧ s.port.transfer = .read old

theorem event_portRead_reads {s : State} {start : Option (BitVec 7)} {old : Option (Option LossRecord)} (more : Bool)
    (reset : s.inReset = false) (reads : Reads s start old) :
    event s (portRead start more) = .next (readByte old more (s.setWires Wires.idle)) := by
  rw [event_outsideReset _ reset]
  obtain ⟨rfl, rfl⟩ | ⟨rfl, transfer⟩ := reads
  · have own : ownAddress (s.setWires Wires.idle) = ownAddress s := rfl
    simp only [portRead, own, if_true]
  · simp only [portRead, readNext, State.setWires_port, transfer]

/-- Settles O45: the byte that lands clears the bits written as 1 (`clearStatus_getLsbD`), and a byte read at 18h is the
status (`event_portRead_reads`). -/
theorem statusWriteClears : Obligations.StatusWriteClears := by
  refine ⟨fun s v f reset lands => ⟨_, clearStatus_getLsbD v s, ?_⟩, fun s start more reset pointer h => ?_⟩
  · rw [exec_interruptStatusWrite reset lands, ackByte_landed (p := s.port) (i := 0x18) rfl rfl]
    simp only [clearStatus, beginWrite, State.setPort, State.setIrq, State.setWires, ManagementPort.acked]
    rfl
  · obtain ⟨old, reads⟩ : ∃ old, Reads s start old :=
      h.elim (fun begins => ⟨none, .inl ⟨begins, rfl⟩⟩) fun ⟨next, c, transfer⟩ => ⟨c, .inr ⟨next, transfer⟩⟩
    refine ⟨_, event_portRead_reads more reset reads, ?_, rfl⟩
    simp only [readByte, State.setWires_wires, State.setWires_port, pointer]
    rfl

/-! ### The log head (R168, R192) -/

theorem readReg_logHead (s : State) (h : Option LossRecord) {i : Byte} (head : inLogHead i = true) :
    readReg s h i = headImage h (i.toNat - 0x30) := by
  obtain ⟨lo, hi⟩ : 0x30 ≤ i.toNat ∧ i.toNat ≤ 0x41 := by simpa [inLogHead] using head
  unfold readReg
  split
  case h_29 => rw [if_pos head]
  all_goals omega

/-- R168: where no copy has been taken yet, the first byte of the head takes it. -/
theorem copyAt_logHead {i : Byte} (head : inLogHead i = true) (old : Option (Option LossRecord)) (s : State) :
    copyAt i old s = some (old.getD s.flog.records.head?) := by
  cases old <;> simp [copyAt, head]

/-- R168: a byte of the head is read from the transfer's copy, which the transfer keeps. -/
theorem readByte_logHead {s : State} (head : inLogHead s.port.index = true) (old : Option (Option LossRecord))
    (more : Bool) {c : Option LossRecord} (copy : c = old.getD s.flog.records.head?) :
    readByte old more s =
      (s.setPort
        { s.port with index := s.port.index + 1, transfer := if more then .read (some c) else .none }).setWires
          { s.wires with ack := some true, sda := some (headImage c (s.port.index.toNat - 0x30)) } := by
  simp only [readByte, copyAt_logHead head, ← copy, Option.getD_some, readReg_logHead _ _ head]

/-- R192: bytes 5 to 9 of the head are the line address, lowest byte first. -/
theorem headByte_line (r : LossRecord) {k : Nat} (hk : k < 5) :
    headByte r (5 + k) = fieldByte (lineAddr r.line) k := by
  simp [headByte, Nat.add_comm 5 k, hk]

/-- R192: bytes 10 to 17 of the head are the lost-byte mask, lowest byte first. -/
theorem headByte_mask (r : LossRecord) (k : Nat) : headByte r (10 + k) = fieldByte r.mask k := by
  simp [headByte, Nat.add_comm 10 k]

/-- Settles O51: a byte of the head is read from the copy (`readByte_logHead`), and the head's bytes are the record's
fields (`headByte_line`, `headByte_mask`). -/
theorem logHeadCopied : Obligations.LogHeadCopied := by
  refine ⟨fun _ _ _ => rfl, fun s start more old c reset head reads copy => ?_, fun _ => rfl, fun r => ?_⟩
  · have taken : exec (.logHeadRead start more) s = .next _ := event_portRead_reads more reset reads
    rw [taken, readByte_logHead (s := s.setWires Wires.idle) head old more copy]
    rfl
  · refine ⟨?_, ?_, ?_, rfl, rfl, fun k hk => headByte_line r hk, fun k _ => headByte_mask r k⟩
    · cases h : r.cause <;> simp [headImage, headByte, LossCause.code, h]
    · cases h : r.window <;> simp [headImage, headByte, WindowIndex.code, h]
    · cases h : r.cls <;> simp [headImage, headByte, AccessClass.code, h]

end Sys2Proof.Machine
end

section
/-! PROOFS. Commands under a held reset (O3), and a response sent (O5). -/

namespace Sys2Proof.Machine

set_option Elab.async false

/-! ### The held reset (R182, R197) -/

/-- While reset is held no command's event acts. -/
theorem event_inReset {s : State} (f : State → State) (held : s.inReset = true) :
    event s f = .next (s.setWires Wires.idle) := by
  simp [event, held]

/-- Every command but POWER_ON_RESET and the two of MREQ_READY is an `event`, which the held reset masks. -/
theorem exec_eq_event {c : Instr} (power : ∀ h a d, c ≠ .powerOnReset h a d) (rise : c ≠ .mreqReadyRise)
    (fall : c ≠ .mreqReadyFall) : ∃ f : State → State, ∀ s, exec c s = event s f := by
  cases c with
  | powerOnReset h a d => exact absurd rfl (power h a d)
  | mreqReadyRise => exact absurd rfl rise
  | mreqReadyFall => exact absurd rfl fall
  | _ => exact ⟨_, fun _ => rfl⟩

/-- Settles O3: the command is an event (`exec_eq_event`), and under held reset no event acts (`event_inReset`). -/
theorem heldResetIgnoresCommands : Obligations.HeldResetIgnoresCommands := by
  intro c s held power rise fall
  obtain ⟨f, isEvent⟩ := exec_eq_event power rise fall
  rw [isEvent, event_inReset f held]

/-! ### The response link (R179) -/

theorem sendResponse_nil {s : State} (queue : s.acc.queue = []) : sendResponse s = s := by
  simp [sendResponse, queue]

theorem sendResponse_cons {s : State} {r : Response} {rest : List Response} (queue : s.acc.queue = r :: rest) :
    sendResponse s =
      (s.setAcc { s.acc with queue := rest, tags := s.acc.tags.set r.tag .free }).setWires
        { s.wires with irsp := some (r.header, r.lanes) } := by
  simp only [sendResponse, queue]
  rfl

theorem exec_responseSent {s : State} (reset : s.inReset = false) :
    exec .responseSent s = .next (sendResponse (s.setWires Wires.idle)) :=
  event_outsideReset sendResponse reset

/-- Settles O5: outside reset the event is `sendResponse`, which takes the head of the queue (`sendResponse_cons`) or
finds none (`sendResponse_nil`). -/
theorem responseSentFreesTag : Obligations.ResponseSentFreesTag := by
  refine ⟨fun s r rest reset queue => ?_, fun s reset queue => ?_⟩
  · rw [exec_responseSent reset, sendResponse_cons (s := s.setWires Wires.idle) queue]
    rfl
  · rw [exec_responseSent reset, sendResponse_nil (s := s.setWires Wires.idle) queue]

end Sys2Proof.Machine
end

section
/-! PROOFS. The codings: what is coded is read back, and each message has its fields at their bits (O55). -/

namespace Sys2Proof.Machine

set_option Elab.async false

/-! ### Fields of a concatenation -/

/-- The field in the middle of a concatenation starts where the low part ends. -/
theorem extractLsb'_append_mid {u v w : Nat} {x : BitVec u} {y : BitVec v} {z : BitVec w} :
    (x ++ y ++ z).extractLsb' w v = y := by
  rw [BitVec.extractLsb'_append_eq_of_le le_rfl, Nat.sub_self, BitVec.extractLsb'_append_eq_right]

/-- A field above the low part is one of the high part. -/
theorem extractLsb'_append_above {v w k n : Nat} {x : BitVec v} {y : BitVec w} :
    (x ++ y).extractLsb' (k + w) n = x.extractLsb' k n := by
  rw [BitVec.extractLsb'_append_eq_of_le (Nat.le_add_left w k), Nat.add_sub_cancel]

/-- A field of one bit that codes a flag. -/
theorem getLsbD_of_flag {n k : Nat} {h : BitVec n} {b : Bool} (flag : h.extractLsb' k 1 = BitVec.ofBool b) :
    h.getLsbD k = b := by
  have low := congrArg (BitVec.getLsbD · 0) flag
  simpa [BitVec.getLsbD_extractLsb'] using low

/-- Five fields, the lowest last, each at the sum of the widths below it. -/
theorem fields_of_append {a b c d e : Nat} (p : BitVec a) (q : BitVec b) (r : BitVec c) (s : BitVec d) (t : BitVec e) :
    (p ++ q ++ r ++ s ++ t).extractLsb' 0 e = t ∧ (p ++ q ++ r ++ s ++ t).extractLsb' e d = s ∧
      (p ++ q ++ r ++ s ++ t).extractLsb' (d + e) c = r ∧ (p ++ q ++ r ++ s ++ t).extractLsb' (c + d + e) b = q ∧
      (p ++ q ++ r ++ s ++ t).extractLsb' (b + c + d + e) a = p := by
  refine ⟨BitVec.extractLsb'_append_eq_right, extractLsb'_append_mid, ?_, ?_, ?_⟩
  · rw [extractLsb'_append_above, extractLsb'_append_mid]
  · rw [extractLsb'_append_above, extractLsb'_append_above, extractLsb'_append_mid]
  · rw [extractLsb'_append_above, extractLsb'_append_above, extractLsb'_append_above, BitVec.extractLsb'_append_eq_left]

/-- An index is read back from a field that is wide enough for it. -/
theorem ofNat_field {n k : Nat} [NeZero n] (wide : n ≤ 2 ^ k) (i : Fin n) :
    Fin.ofNat n (BitVec.ofNat k i.val).toNat = i := by
  simp [Nat.mod_eq_of_lt (i.isLt.trans_le wide)]

/-! ### Request messages (R183) -/

theorem encodeRequest_fields (r : Request) :
    (encodeRequest r).hdr.extractLsb' 0 3 = r.op.code ∧
      (encodeRequest r).hdr.extractLsb' 3 5 = BitVec.ofNat 5 r.tag.val ∧ (encodeRequest r).hdr.getLsbD 8 = r.confirm ∧
      (encodeRequest r).hdr.extractLsb' 9 7 = BitVec.ofNat 7 r.span.size ∧
      (encodeRequest r).hdr.extractLsb' 16 40 = r.span.addr :=
  have ⟨op, tag, confirm, size, addr⟩ := fields_of_append r.span.addr (BitVec.ofNat 7 r.span.size)
    (BitVec.ofBool r.confirm) (BitVec.ofNat 5 r.tag.val) r.op.code
  ⟨op, tag, getLsbD_of_flag confirm, size, addr⟩

theorem requestOp_code (op : RequestOp) : requestOp op.code = op := by
  cases op <;> rfl

theorem decodeRequest_encodeRequest {r : Request} (size : r.span.size < 128) : decodeRequest (encodeRequest r) = r := by
  obtain ⟨op, tag, confirm, sizeBits, addr⟩ := encodeRequest_fields r
  have data : (encodeRequest r).data = r.data := rfl
  simp only [decodeRequest, op, tag, confirm, sizeBits, addr, data, requestOp_code,
    ofNat_field (show 32 ≤ 2 ^ 5 by decide), BitVec.toNat_ofNat r.span.size 7, Nat.mod_eq_of_lt size]

theorem decodeRequest_tag (m : IReqMsg) : (decodeRequest m).tag.val = (m.hdr.extractLsb' 3 5).toNat :=
  Nat.mod_eq_of_lt (m.hdr.extractLsb' 3 5).isLt

theorem requestOp_iff (code : BitVec 3) :
    (requestOp code = .read ↔ code = 0) ∧ (requestOp code = .write ↔ code = 1) ∧
      (requestOp code = .fence ↔ code = 2) := by
  revert code; decide

/-! ### Response messages (R184) -/

theorem responseFields_fields (reason : BitVec 2) (status : Bool) (t : Tag) (kind : BitVec 2) :
    (responseFields reason status t kind).extractLsb' 0 2 = kind ∧
      (responseFields reason status t kind).extractLsb' 2 5 = BitVec.ofNat 5 t.val ∧
      (responseFields reason status t kind).getLsbD 7 = status ∧
      (responseFields reason status t kind).extractLsb' 8 2 = reason :=
  have above (k n : Nat) : (responseFields reason status t kind).extractLsb' (k + 2) n =
      (reason ++ BitVec.ofBool status ++ BitVec.ofNat 5 t.val).extractLsb' k n := extractLsb'_append_above
  ⟨BitVec.extractLsb'_append_eq_right, extractLsb'_append_mid,
    getLsbD_of_flag ((above 5 1).trans extractLsb'_append_mid),
    (above 6 2).trans (extractLsb'_append_above.trans BitVec.extractLsb'_append_eq_left)⟩

/-- The fields of a response as they are read off its header, beside its lanes. -/
theorem responseFields_read (reason : BitVec 2) (status : Bool) (t : Tag) (kind : BitVec 2) (d : Lanes) :
    ((responseFields reason status t kind).extractLsb' 0 2, (responseFields reason status t kind).extractLsb' 2 5,
      (responseFields reason status t kind).getLsbD 7, (responseFields reason status t kind).extractLsb' 8 2, d) =
      (kind, BitVec.ofNat 5 t.val, status, reason, d) := by
  obtain ⟨kindBits, tagBits, statusBit, reasonBits⟩ := responseFields_fields reason status t kind
  rw [kindBits, tagBits, statusBit, reasonBits]

/-! ### Memory request messages (R185, R54) -/

theorem memHeader_mrd_fields (m : MemTag) (sp : Span) :
    (memHeader m (.mrd sp)).getLsbD 0 = false ∧ (memHeader m (.mrd sp)).extractLsb' 1 4 = BitVec.ofNat 4 m.val ∧
      (memHeader m (.mrd sp)).extractLsb' 5 40 = sp.addr ∧
      (memHeader m (.mrd sp)).extractLsb' 45 7 = BitVec.ofNat 7 sp.size ∧
      (memHeader m (.mrd sp)).extractLsb' 52 4 = 0 :=
  have ⟨op, tag, addr, size, zero⟩ := fields_of_append 0#4 (BitVec.ofNat 7 sp.size) sp.addr (BitVec.ofNat 4 m.val) 0#1
  ⟨getLsbD_of_flag op, tag, addr, size, zero⟩

theorem memHeader_mwr_fields (m : MemTag) (a : Addr) (sh : Shape) (d : Lanes) :
    (memHeader m (.mwr a sh d)).getLsbD 0 = true ∧ (memHeader m (.mwr a sh d)).extractLsb' 1 4 = BitVec.ofNat 4 m.val ∧
      (memHeader m (.mwr a sh d)).extractLsb' 5 40 = a ∧ (memHeader m (.mwr a sh d)).extractLsb' 45 3 = sh.code ∧
      (memHeader m (.mwr a sh d)).extractLsb' 48 8 = sh.byteMask :=
  have ⟨op, tag, addr, shape, mask⟩ := fields_of_append sh.byteMask sh.code a (BitVec.ofNat 4 m.val) 1#1
  ⟨getLsbD_of_flag op, tag, addr, shape, mask⟩

/-- R54: a granule's address lies within its line, so the sum does not wrap. -/
theorem granuleAddr_toNat (l : Line) (g : Fin 8) :
    (lineAddr l + BitVec.ofNat 40 (8 * g.val)).toNat = 64 * l.toNat + 8 * g.val := by
  have line : (lineAddr l).toNat = 64 * l.toNat := by
    simp only [lineAddr, BitVec.toNat_append, Nat.shiftLeft_eq, BitVec.toNat_ofNat, Nat.zero_mod, Nat.or_zero]
    omega
  have := l.isLt
  have := g.isLt
  rw [BitVec.toNat_add, line, BitVec.toNat_ofNat]
  omega

/-! ### Memory response messages (R186, R188) -/

theorem mrspCommand_eq {m : MemTag} {h : BitVec 6} (d : Lanes) (tag : h.extractLsb' 2 4 = BitVec.ofNat 4 m.val) :
    (h.extractLsb' 0 2 = 0 → mrspCommand h d = .done m d) ∧ (h.extractLsb' 0 2 = 1 → mrspCommand h d = .defer m) ∧
      (h.extractLsb' 0 2 = 2 → mrspCommand h d = .fault m) ∧ (h.extractLsb' 0 2 = 3 → mrspCommand h d = .badResp m) := by
  have tagBits : Fin.ofNat 16 (h.extractLsb' 2 4).toNat = m := by
    rw [tag, ofNat_field (by decide)]
  refine ⟨fun kind => ?_, fun kind => ?_, fun kind => ?_, fun kind => ?_⟩ <;>
    (simp only [mrspCommand, tagBits, kind]; rfl)

theorem mrspCommand_mrspHeader {c : Instr} {d : Lanes} {h : BitVec 6} (header : mrspHeader c = some h)
    (data : ∀ m e, c = .done m e → e = d) : mrspCommand h d = c := by
  have kinds (m : MemTag) (kind : BitVec 2) :=
    mrspCommand_eq (h := BitVec.ofNat 4 m.val ++ kind) d BitVec.extractLsb'_append_eq_left
  cases c with
  | done m e =>
    cases header
    obtain ⟨done, -, -, -⟩ := kinds m 0
    rw [data m e rfl]
    exact done BitVec.extractLsb'_append_eq_right
  | defer m =>
    cases header
    obtain ⟨-, defer, -, -⟩ := kinds m 1
    exact defer BitVec.extractLsb'_append_eq_right
  | fault m =>
    cases header
    obtain ⟨-, -, fault, -⟩ := kinds m 2
    exact fault BitVec.extractLsb'_append_eq_right
  | badResp m =>
    cases header
    obtain ⟨-, -, -, badResp⟩ := kinds m 3
    exact badResp BitVec.extractLsb'_append_eq_right
  | _ => cases header

/-! ### Bytes of the management port (R190, R192, R193) -/

theorem isCommandCode_iff (c : Byte) :
    isCommandCode c = true ↔ c = 1 ∨ c = 2 ∨ c = 3 ∨ c = 4 ∨ c = 5 ∨ c = 6 := by
  simp only [isCommandCode, Bool.and_eq_true, decide_eq_true_eq]
  bv_omega

/-- R193: every byte at the command register is a well-formed command, which stands for that byte. -/
theorem commandOfCode_wf_byte (c : Byte) (f : Bool) :
    (commandOfCode c f).wf = true ∧
      portByte (commandOfCode c f) = some { index := 0x10, value := c, follows := f } := by
  cases code : isCommandCode c with
  | false =>
    have wf : (Instr.unknownCommand c f).wf = true := by simp [Instr.wf, code]
    have unknown : commandOfCode c f = .unknownCommand c f := Laws.PortRoundTrip.unknownCommand c f wf _ rfl
    rw [unknown]
    exact ⟨wf, rfl⟩
  | true => obtain rfl | rfl | rfl | rfl | rfl | rfl := (isCommandCode_iff c).1 code <;> exact ⟨rfl, rfl⟩

/-- Every byte at every index is a well-formed command, which stands for that byte. -/
theorem portCommand_wf_byte (b : PortByte) :
    (portCommand b).wf = true ∧ portByte (portCommand b) = some b := by
  obtain ⟨i, v, f⟩ := b
  simp only [portCommand, beq_iff_eq]
  split
  case isTrue command => subst command; exact commandOfCode_wf_byte v f
  split
  case isTrue status => subst status; exact ⟨rfl, rfl⟩
  split
  case isTrue mask => subst mask; exact ⟨rfl, rfl⟩
  split
  case isTrue low => subst low; exact ⟨rfl, rfl⟩
  split
  case isTrue high => subst high; exact ⟨rfl, rfl⟩
  split
  case isTrue staged => exact ⟨staged, rfl⟩
  case isFalse => exact ⟨by simp_all [Instr.wf, hasOwnRow], rfl⟩

/-- A well-formed management write is read back from its byte. -/
theorem portCommand_portByte {c : Instr} {b : PortByte} (wf : c.wf = true) (byte : portByte c = some b) :
    portCommand b = c := by
  have roundTrip : Laws.PortRoundTrip.Statement c := by
    cases c with
    | commit f => exact Laws.PortRoundTrip.commit f
    | dpReset f => exact Laws.PortRoundTrip.dpReset f
    | dpResetForce f => exact Laws.PortRoundTrip.dpResetForce f
    | logPop f => exact Laws.PortRoundTrip.logPop f
    | logClearOvf f => exact Laws.PortRoundTrip.logClearOvf f
    | protoClear f => exact Laws.PortRoundTrip.protoClear f
    | unknownCommand code f => exact Laws.PortRoundTrip.unknownCommand code f
    | interruptStatusWrite v f => exact Laws.PortRoundTrip.interruptStatusWrite v f
    | interruptMaskWrite v f => exact Laws.PortRoundTrip.interruptMaskWrite v f
    | responseTimeoutLowWrite v f => exact Laws.PortRoundTrip.responseTimeoutLowWrite v f
    | responseTimeoutHighWrite v f => exact Laws.PortRoundTrip.responseTimeoutHighWrite v f
    | stagedTableWrite i v f => exact Laws.PortRoundTrip.stagedTableWrite i v f
    | registerWrite i v f => exact Laws.PortRoundTrip.registerWrite i v f
    | _ => exact fun _ _ byte => nomatch byte
  exact roundTrip wf b byte

/-- Settles O55, coding by coding: the round trips (`decodeRequest_encodeRequest`, `mrspCommand_mrspHeader`,
`portCommand_portByte`, `portCommand_wf_byte`) and each message's fields at their bits (`decodeRequest_tag`,
`requestOp_iff`, `mrspCommand_eq`, `responseFields_read`, `memHeader_mrd_fields`, `memHeader_mwr_fields`,
`granuleAddr_toNat`). -/
theorem codingsRoundTrip : Obligations.CodingsRoundTrip := by
  refine ⟨fun _ => decodeRequest_encodeRequest, fun _ _ _ => mrspCommand_mrspHeader, fun _ _ => portCommand_portByte,
    portCommand_wf_byte, fun _ => rfl, fun m => ?request, fun _ d _ => mrspCommand_eq d, fun x code codes => ?response,
    fun m sp => ?mrd, fun m a sh d => ?mwr, fun l d p => ?piece⟩
  case request =>
    exact ⟨decodeRequest_tag m, rfl, rfl, rfl, rfl, requestOp_iff (m.hdr.extractLsb' 0 3)⟩
  case response =>
    subst codes
    cases x with
    | rdataOk t d => exact responseFields_read ..
    | rdataError t r => cases r <;> exact responseFields_read ..
    | wackOk t => exact responseFields_read ..
    | wackError t r => cases r <;> exact responseFields_read ..
    | fack t loss => exact responseFields_read ..
  case mrd =>
    obtain ⟨op, tag, addr, size, zero⟩ := memHeader_mrd_fields m sp
    exact ⟨op, tag, addr, size, zero, rfl⟩
  case mwr =>
    obtain ⟨op, tag, addr, shape, mask⟩ := memHeader_mwr_fields m a sh d
    refine ⟨op, tag, addr, ?_, rfl⟩
    rw [shape, mask]
    obtain (_ | _ | _ | _) | flags := sh <;> rfl
  case piece =>
    exact ⟨_, _, rfl, granuleAddr_toNat l p.start, fun k => takeLanes_get p.mask d k.val k.isLt⟩

end Sys2Proof.Machine
end

section
/-! PROOFS. A byte on the management port: the registers written (O47), the commands' bytes (O44), and the transfers (O49). -/

namespace Sys2Proof.Machine

set_option Elab.async false

/-! ### The command of a data byte (R190, R193) -/

/-- A command that is a data byte writes that byte, whatever register it names. -/
theorem exec_portByte {c : Instr} {b : PortByte} (byte : portByte c = some b) (s : State) :
    exec c s = event s (portWrite b.follows b.index b.value) := by
  cases c
  case commit | dpReset | dpResetForce | logPop | logClearOvf | protoClear | unknownCommand | interruptStatusWrite |
      interruptMaskWrite | responseTimeoutLowWrite | responseTimeoutHighWrite | stagedTableWrite | registerWrite =>
    obtain rfl := Option.some.inj byte
    rfl
  all_goals nomatch byte

/-- The state in which a byte that landed at index `i` is written. -/
def landed (s : State) (i : Byte) : State := beginWrite i (s.setWires Wires.idle)

theorem exec_portByte_lands {c : Instr} {b : PortByte} {s : State} (byte : portByte c = some b)
    (reset : s.inReset = false) (lands : Lands s b.follows b.index) :
    exec c s = .next (takeByte b.value (landed s b.index)) :=
  (exec_portByte byte s).trans (event_portWrite_lands b.value reset lands)

/-- R189, R190: a byte acknowledged at index `i`, with `t` the state in which its register is written. -/
theorem takeByte_acked {s t : State} {i v : Byte} (taken : writeReg i v (landed s i) = (true, t)) :
    takeByte v (landed s i) = ackByte t := by
  have written : writeReg (landed s i).port.index v (landed s i) = (true, t) := taken
  simp only [takeByte, written, if_true]

/-- R190: a byte refused at index `i`. -/
theorem takeByte_refused {s t : State} {i v : Byte} (refused : writeReg i v (landed s i) = (false, t)) :
    takeByte v (landed s i) = nackByte t := by
  have written : writeReg (landed s i).port.index v (landed s i) = (false, t) := refused
  simp [takeByte, written]

/-- R190: what the refusal of a byte that landed at index `i` leaves. -/
theorem nackByte_landed {u : State} {p : ManagementPort} {i : Byte} (wires : u.wires = Wires.idle)
    (port : u.port = { p with index := i, transfer := .write }) :
    nackByte u = (u.setPort (p.refused i)).setWires (Wires.answer false) := by
  simp only [nackByte, noAck, State.setPort_wires, wires, port, ManagementPort.refused, Wires.answer]

/-! ### Registers checked (R190, R192) -/

theorem takeRange_within {lo hi : Nat} {v : Byte} (put : State → State) (s : State)
    (within : lo ≤ v.toNat ∧ v.toNat ≤ hi) : takeRange lo hi v put s = (true, put s) := by
  simp [takeRange, within]

theorem takeRange_outside {lo hi : Nat} {v : Byte} (put : State → State) (s : State)
    (outside : ¬ (lo ≤ v.toNat ∧ v.toNat ≤ hi)) : takeRange lo hi v put s = (false, s) := by
  simp [takeRange, outside]

/-- R190: a byte at a threshold's index is taken in its range, and refused out of it. -/
theorem takeByte_threshold {s : State} {i v : Byte} {lo hi : Nat} {put : Thresholds → Thresholds}
    (register : ∀ t, writeReg i v t = takeRange lo hi v (fun u => u.setCfg (put u.cfg)) t) :
    takeByte v (landed s i) =
      if lo ≤ v.toNat ∧ v.toNat ≤ hi then
        { s with cfg := put s.cfg, port := s.port.acked i, wires := Wires.answer true }
      else { s with port := s.port.refused i, wires := Wires.answer false } := by
  split
  · next within =>
    rw [takeByte_acked ((register _).trans (takeRange_within _ _ within)),
      ackByte_landed (p := s.port) (i := i) rfl rfl]
    simp only [landed, beginWrite, State.setPort, State.setCfg, State.setWires, ManagementPort.acked]
  · next outside =>
    rw [takeByte_refused ((register _).trans (takeRange_outside _ _ outside)),
      nackByte_landed (p := s.port) (i := i) rfl rfl]
    simp only [landed, beginWrite, State.setPort, State.setWires, ManagementPort.refused]

/-- R190, R192: a read-only or unassigned index discards the byte. -/
theorem writeReg_discards {i v : Byte} {f : Bool} (wf : (Instr.registerWrite i v f).wf = true)
    (unassigned : i ∉ [0x08, 0x09, 0x0A, 0x0B, 0x0F]) (s : State) : writeReg i v s = (true, s) := by
  simp only [Instr.wf, hasOwnRow, Bool.and_eq_true, Bool.not_eq_true', Bool.or_eq_false_iff,
    beq_eq_false_iff_ne] at wf
  have apart : ∀ j : Byte, i ≠ j → i.toNat ≠ j.toNat := fun j ne same => ne (BitVec.eq_of_toNat_eq same)
  obtain ⟨notStaged, ⟨⟨⟨low, high⟩, command⟩, status⟩, mask⟩ := wf
  simp only [List.mem_cons, List.not_mem_nil, or_false, not_or] at unassigned
  obtain ⟨watermark, promotion, retry, backoff, hold⟩ := unassigned
  rw [writeReg, notStaged, if_neg Bool.false_ne_true]
  split
  · exact absurd ‹_› (apart 0x08 watermark)
  · exact absurd ‹_› (apart 0x09 promotion)
  · exact absurd ‹_› (apart 0x0A retry)
  · exact absurd ‹_› (apart 0x0B backoff)
  · exact absurd ‹_› (apart 0x0C low)
  · exact absurd ‹_› (apart 0x0D high)
  · exact absurd ‹_› (apart 0x0F hold)
  · exact absurd ‹_› (apart 0x10 command)
  · exact absurd ‹_› (apart 0x18 status)
  · exact absurd ‹_› (apart 0x19 mask)
  · rfl

/-- R190: the value 0 is refused, and the held byte is dropped. -/
theorem takeTimeoutHigh_zero {s : State} {v : Byte} (zero : joinedTimeout v s = 0) :
    takeTimeoutHigh v s = (false, s.setPort { s.port with heldLow := none }) :=
  if_pos zero

/-- R190: any other value is taken, and the held byte is dropped. -/
theorem takeTimeoutHigh_taken {s : State} {v : Byte} (positive : joinedTimeout v s ≠ 0) :
    takeTimeoutHigh v s = (true, (s.setPort { s.port with heldLow := none }).setCfg
      { s.cfg with responseTimeout := joinedTimeout v s }) :=
  if_neg positive

/-- R190: the high byte joins the held low byte, or the current one; 0 is refused, and the held byte is dropped. -/
theorem takeByte_timeoutHigh (s : State) (v : Byte) :
    takeByte v (landed s 0x0D) =
      if joinedTimeout v s = 0 then
        { s with port := { s.port.refused 0x0D with heldLow := none }, wires := Wires.answer false }
      else
        { s with
          cfg := { s.cfg with responseTimeout := joinedTimeout v s }
          port := { s.port.acked 0x0D with heldLow := none }
          wires := Wires.answer true } := by
  have register : writeReg 0x0D v (landed s 0x0D) = takeTimeoutHigh v (landed s 0x0D) := rfl
  have value : joinedTimeout v (landed s 0x0D) = joinedTimeout v s := rfl
  generalize joinedTimeout v s = n at value ⊢
  split
  · next zero =>
    rw [takeByte_refused (register.trans (takeTimeoutHigh_zero (value.trans zero))),
      nackByte_landed (p := { s.port with heldLow := none }) (i := 0x0D) rfl rfl]
    simp only [landed, beginWrite, State.setPort, State.setWires, ManagementPort.refused]
  · next positive =>
    rw [takeByte_acked (register.trans (takeTimeoutHigh_taken (value ▸ positive))), value,
      ackByte_landed (p := { s.port with heldLow := none }) (i := 0x0D) rfl rfl]
    simp only [landed, beginWrite, State.setPort, State.setCfg, State.setWires, ManagementPort.acked]

/-- Settles O47: a byte that lands is taken or refused by its register (`takeByte_threshold`, `takeByte_timeoutHigh`),
held, or discarded (`writeReg_discards`). -/
theorem registerWritesChecked : Obligations.RegisterWritesChecked := by
  refine ⟨fun s i v f reset lands => ⟨fun lo hi c register => ?threshold, fun hold => ?hold, fun wf rest => ?discard⟩,
    fun s v f reset lands => ?low, fun s v f n reset lands joined => ?high⟩
  case threshold =>
    rw [exec_portByte_lands rfl reset lands]
    obtain ⟨rfl, rfl, rfl, rfl⟩ | ⟨rfl, rfl, rfl, rfl⟩ | ⟨rfl, rfl, rfl, rfl⟩ | ⟨rfl, rfl, rfl, rfl⟩ := register
    · exact congrArg _ (takeByte_threshold (put := fun c => { c with highWatermark := v }) fun _ => rfl)
    · exact congrArg _ (takeByte_threshold (put := fun c => { c with promotionTime := v }) fun _ => rfl)
    · exact congrArg _ (takeByte_threshold (put := fun c => { c with retryLimit := v }) fun _ => rfl)
    · exact congrArg _ (takeByte_threshold (put := fun c => { c with backoffBase := v }) fun _ => rfl)
  case hold =>
    subst hold
    rw [exec_portByte_lands rfl reset lands, takeByte_acked rfl, ackByte_landed (p := s.port) (i := 0x0F) rfl rfl]
    simp only [landed, beginWrite, State.setPort, State.setWin, State.setWires, ManagementPort.acked]
  case discard =>
    rw [exec_portByte_lands rfl reset lands, takeByte_acked (writeReg_discards wf rest _),
      ackByte_landed (p := s.port) (i := i) rfl rfl]
    simp only [landed, beginWrite, State.setPort, State.setWires, ManagementPort.acked]
  case low =>
    rw [exec_portByte_lands rfl reset lands, takeByte_acked rfl,
      ackByte_landed (p := { s.port with heldLow := some v }) (i := 0x0C) rfl rfl]
    simp only [holdTimeoutLow, landed, beginWrite, State.setPort, State.setWires, ManagementPort.acked]
  case high =>
    have value : joinedTimeout v s = n := joined.symm
    rw [exec_portByte_lands rfl reset lands, takeByte_timeoutHigh, value]

/-! ### The bytes of the command register (R193) -/

/-- A command moves neither the index pointer nor the transfer. -/
def KeepsPointer (s t : State) : Prop := t.port.index = s.port.index ∧ t.port.transfer = s.port.transfer

theorem KeepsPointer.trans {s t u : State} (h : KeepsPointer s t) (k : KeepsPointer t u) : KeepsPointer s u :=
  ⟨k.1.trans h.1, k.2.trans h.2⟩

theorem KeepsPointer.of_frame {bs : List Block} {s t : State} (f : Frame bs s t)
    (hb : Block.port ∉ bs := by decide) : KeepsPointer s t := by
  have port : t.port = s.port := f .port hb
  exact ⟨by rw [port], by rw [port]⟩

theorem keepsPointer_setResult (r : CommandResult) (s : State) : KeepsPointer s (setResult r s) := ⟨rfl, rfl⟩

theorem keepsPointer_applyCommit (s : State) : KeepsPointer s (applyCommit s) :=
  ((((KeepsPointer.of_frame (frame_setWin s _)).trans (.of_frame (frame_invalidate _))).trans
    (.of_frame (frame_setQuiesce _ _))).trans (keepsPointer_setResult _ _)).trans (.of_frame (frame_setIrqBit _ _))

theorem keepsPointer_enterQuiet (s : State) : KeepsPointer s (enterQuiet s) := by
  have entered : KeepsPointer s (s.setQuiesce { s.quiesce with state := .quiet }) := .of_frame (frame_setQuiesce s _)
  unfold enterQuiet
  dsimp only
  split
  · have committed := entered.trans (keepsPointer_applyCommit _)
    split
    · exact committed.trans (.of_frame (frame_setQuiesce _ _))
    · exact committed.trans (.of_frame (frame_returnToRun _))
  · split
    · exact entered.trans (.of_frame (frame_setQuiesce _ _))
    · exact entered.trans (.of_frame (frame_returnToRun _))

theorem keepsPointer_quiesceStart (s : State) : KeepsPointer s (quiesceStart s) := by
  have started : KeepsPointer s ((invalidate (sealAll s)).setQuiesce
      { (invalidate (sealAll s)).quiesce with state := .quiescing }) :=
    ((KeepsPointer.of_frame (frame_sealAll s)).trans (.of_frame (frame_invalidate _))).trans
      (.of_frame (frame_setQuiesce _ _))
  unfold quiesceStart quietTest
  dsimp only
  split
  · exact started.trans (keepsPointer_enterQuiet _)
  · exact started

theorem keepsPointer_takeCommit (s : State) : KeepsPointer s (takeCommit s) := by
  unfold takeCommit; split
  · exact keepsPointer_setResult _ s
  · split
    · unfold startCommit
      dsimp only
      have pending := (KeepsPointer.of_frame (frame_setQuiesce s { s.quiesce with commitPending := true })).trans
        (keepsPointer_setResult .pending _)
      split
      · exact (pending.trans (keepsPointer_quiesceStart _)).trans (.of_frame (frame_finishEvent s _))
      · exact pending
      · exact pending.trans (keepsPointer_applyCommit _)
    · exact keepsPointer_setResult _ s

theorem keepsPointer_forceQuiesce (s : State) : KeepsPointer s (forceQuiesce s) := by
  unfold forceQuiesce
  dsimp only
  split <;> exact ⟨rfl, rfl⟩

theorem keepsPointer_takeDpResetForce (s : State) : KeepsPointer s (takeDpResetForce s) := by
  have answered : KeepsPointer s (answerAllReset (setResult .done s)) :=
    (keepsPointer_setResult .done s).trans (.of_frame (Frame.foldl _ frame_answerReset allTags _))
  exact (((((answered.trans (.of_frame (frame_discardSlots _))).trans (.of_frame (frame_forceUnits _))).trans
    (.of_frame (frame_setArb _ _))).trans (.of_frame (frame_setTrk _ _))).trans (keepsPointer_forceQuiesce _)).trans
      (.of_frame (frame_finishEvent s _))

/-- R193: no command's effect is on the pointer or the transfer. -/
theorem keepsPointer_runCommand (code : Byte) (s : State) : KeepsPointer s (runCommand code s) := by
  unfold runCommand; split
  · exact keepsPointer_takeCommit s
  · unfold takeDpReset
    split <;> exact ⟨rfl, rfl⟩
  · exact keepsPointer_takeDpResetForce s
  · rw [takeLogPop_eq]
    exact ⟨rfl, rfl⟩
  · exact ⟨rfl, rfl⟩
  · exact ⟨rfl, rfl⟩
  · exact ⟨rfl, rfl⟩

theorem runCommand_protoClear (s : State) : runCommand 0x06 s = takeProtoClear s := rfl

/-- R193: an unassigned code is REFUSED. -/
theorem runCommand_unassigned {code : Byte} (unassigned : isCommandCode code = false) (s : State) :
    runCommand code s = setResult .refused s := by
  have outside : ¬ (1 ≤ code.toNat ∧ code.toNat ≤ 6) := by simpa [isCommandCode] using unassigned
  unfold runCommand
  split
  case h_7 => rfl
  all_goals omega

/-- A byte that lands at the command register runs its command and is acknowledged. -/
theorem exec_command {c : Instr} {b : PortByte} {s : State} (byte : portByte c = some b) (index : b.index = 0x10)
    (reset : s.inReset = false) (lands : Lands s b.follows 0x10) :
    exec c s = .next (ackByte (runCommand b.value (landed s 0x10))) := by
  rw [exec_portByte_lands byte reset (index ▸ lands), index, takeByte_acked rfl]

theorem exec_protoClear {s : State} {f : Bool} (reset : s.inReset = false) (lands : Lands s f 0x10) :
    exec (.protoClear f) s = .next (ackByte (takeProtoClear (landed s 0x10))) :=
  (exec_command (b := { index := 0x10, value := 0x06, follows := f }) rfl rfl reset lands).trans
    (congrArg (fun t => Host.Outcome.next (ackByte t)) (runCommand_protoClear _))

/-- Settles O44: a command's byte runs its command (`exec_command`), which leaves the pointer to the acknowledge
(`keepsPointer_runCommand`); an unassigned code is REFUSED (`runCommand_unassigned`). -/
theorem commandBytes : Obligations.CommandBytes := by
  refine ⟨fun s f reset lands => ?_, fun s code f reset lands wf => ?_, fun s c b reset _ byte index lands => ?_⟩
  · rw [exec_protoClear reset lands,
      ackByte_landed (p := { s.port with result := .done }) (i := 0x10) rfl rfl]
    simp only [takeProtoClear, setResult, landed, beginWrite, State.setPort, State.setAcc, State.setTrk,
      State.setWires, ManagementPort.acked]
  · have unassigned : isCommandCode code = false := by simpa [Instr.wf] using wf
    rw [exec_command (c := .unknownCommand code f) rfl rfl reset lands, runCommand_unassigned unassigned,
      ackByte_landed (p := { s.port with result := .refused }) (i := 0x10) rfl rfl]
    simp only [setResult, landed, beginWrite, State.setPort, State.setWires, ManagementPort.acked]
  · obtain ⟨pointer, transfer⟩ := keepsPointer_runCommand b.value (landed s 0x10)
    refine ⟨_, exec_command byte index reset lands, ?_, transfer, rfl⟩
    simp only [ackByte, State.setWires_port, State.setPort_port, pointer]
    rfl

/-! ### Transfers (R189, R190, R191) -/

/-- R189: 58h plus the straps is a 7-bit address at every strapping. -/
theorem ownAddress_toNat (s : State) : (ownAddress s).toNat = 0x58 + s.port.straps.toNat := by
  have straps := s.port.straps.isLt
  simp only [ownAddress, BitVec.toNat_add, BitVec.toNat_setWidth]
  simp
  omega

theorem exec_indexPointerWrite_own {s : State} (i : Byte) (reset : s.inReset = false) :
    exec (.indexPointerWrite (ownAddress s) i) s = .next ((landed s i).setWires (Wires.answer true)) :=
  (event_outsideReset (pointerWrite (ownAddress s) i) reset).trans (congrArg _ (if_pos rfl))

/-- R189, R190: outside a write transfer of the port's own, and after a refused byte, data bytes are not acknowledged. -/
theorem dataByte_ignored {s : State} (v : Byte) (outside : s.port.transfer ≠ .write) : dataByte v s = noAck s := by
  unfold dataByte
  split
  · next write => exact absurd write outside
  all_goals rfl

/-- R189: outside a read transfer of the port's own the port sends nothing. -/
theorem readNext_ignored {s : State} (more : Bool) (outside : ∀ c, s.port.transfer ≠ .read c) :
    readNext more s = noAck s := by
  unfold readNext
  split
  · next c read => exact absurd read (outside c)
  all_goals rfl

/-- R192: only the log head's bytes are read from the copy. -/
theorem readReg_outsideHead (s : State) (h : Option LossRecord) {i : Byte} (outside : inLogHead i = false) :
    readReg s h i = readReg s none i := by
  unfold readReg
  simp only [outside, Bool.false_eq_true, if_false]

/-- R189, R191: a byte outside the log head is read at the pointer, which then advances; the copy stays as it was. -/
theorem readByte_outsideHead {s : State} (outside : inLogHead s.port.index = false) (old : Option (Option LossRecord))
    (more : Bool) :
    readByte old more s =
      (s.setPort
        { s.port with index := s.port.index + 1, transfer := if more then .read old else .none }).setWires
          { s.wires with ack := some true, sda := some (readReg s none s.port.index) } := by
  have copy : copyAt s.port.index old s = old := by simp [copyAt, outside]
  simp only [readByte, copy, readReg_outsideHead s _ outside]

/-- R189: the pointer stands at 00h after FFh. -/
theorem pointer_wraps (i : Byte) : i + 1 = if i = 0xFF then 0x00 else i + 1 := by
  split
  · next last => rw [last]; rfl
  · rfl

/-- Settles O49: which byte follows in a transfer is the transfer's own matter (`exec_portByte`), outside a write
transfer a byte is ignored (`dataByte_ignored`), and a byte read shows the register at the pointer
(`event_portRead_reads`, `readByte_outsideHead`). -/
theorem transfersMovePointer : Obligations.TransfersMovePointer := by
  refine ⟨ownAddress_toNat, fun s i reset => exec_indexPointerWrite_own i reset,
    fun s c c' b b' byte byte' follows follows' value => ?follows,
    fun s u c c' b reset byte begins byte' pointer => ?begins,
    fun s c b reset byte follows outside => ?ignored, fun s start more c reset outside reads => ?read,
    fun s more reset outside => ?notRead, fun s a i more c reset other command => ?other⟩
  case follows =>
    rw [exec_portByte byte, exec_portByte byte', follows, follows', value]
    rfl
  case begins =>
    obtain rfl := Host.Outcome.next.inj ((exec_indexPointerWrite_own b.index reset).symm.trans pointer)
    have reset' : ((landed s b.index).setWires (Wires.answer true)).inReset = false := reset
    rw [exec_portByte byte, exec_portByte byte', event_outsideReset _ reset, event_outsideReset _ reset', begins]
    rfl
  case ignored =>
    rw [exec_portByte byte, event_outsideReset _ reset, follows]
    exact congrArg _ (dataByte_ignored (s := s.setWires Wires.idle) b.value outside)
  case read =>
    have sent : exec (.readTransfer start more) s = .next _ := event_portRead_reads more reset reads
    rw [sent, readByte_outsideHead (s := s.setWires Wires.idle) outside c more, ← pointer_wraps]
    rfl
  case notRead =>
    have ignored := readNext_ignored (s := s.setWires Wires.idle) more outside
    exact (event_outsideReset (portRead none more) reset).trans (congrArg _ ignored)
  case other =>
    obtain rfl | rfl := command
    · exact (event_outsideReset (pointerWrite a i) reset).trans (congrArg _ (if_neg other))
    · exact (event_outsideReset (portRead (some a) more) reset).trans (congrArg _ (if_neg other))

end Sys2Proof.Machine
end

section
/-! PROOFS. What the register summary reads as (O50). -/

namespace Sys2Proof.Machine

set_option Elab.async false

/-! ### Fields over several registers (R189, R192) -/

/-- R189: two bytes, the low one first, hold a field of 16 bits. -/
theorem fieldBytes_two (x : BitVec 16) : fieldByte x 1 ++ fieldByte x 0 = x := by
  refine BitVec.eq_of_getLsbD_eq fun k hk => ?_
  simp only [BitVec.getLsbD_append, fieldByte, BitVec.getLsbD_extractLsb']
  grind

/-- R189: four bytes, the lowest first, hold a page number, the four bits above it clear. -/
theorem fieldBytes_page (p : Page) :
    fieldByte p 3 ++ fieldByte p 2 ++ fieldByte p 1 ++ fieldByte p 0 = p.setWidth 32 := by
  refine BitVec.eq_of_getLsbD_eq fun k hk => ?_
  simp only [BitVec.getLsbD_append, fieldByte, BitVec.getLsbD_extractLsb', BitVec.getLsbD_setWidth]
  grind

/-- R192: the control byte has the enable in bit 0, the prefetch enable in bit 1 and the class code above them. -/
theorem control_getLsbD (w : WindowRecord) (k : Nat) :
    w.control.getLsbD k =
      (k == 0 && w.enable || k == 1 && w.prefetch || k == 2 && w.cls.code.getLsbD 0 ||
        k == 3 && w.cls.code.getLsbD 1) := by
  simp only [WindowRecord.control, BitVec.getLsbD_setWidth, BitVec.getLsbD_append, BitVec.getLsbD_ofBool]
  match k with
  | 0 | 1 | 2 | 3 => simp
  | k + 4 => simp

/-! ### The registers of a window record (R192) -/

/-- R192: the registers of window record `n` stand 16 n indices above those of record 0. -/
theorem readReg_recordOf (s : State) (h : Option LossRecord) (n : Fin 8) {base : Byte} {k : Nat}
    (stands : base.toNat = 0x50 + k) (hk : k < 16) :
    readReg s h (base + BitVec.ofNat 8 (16 * n.val)) = (s.win.staged.recs[n]).readByte k := by
  have bound := n.isLt
  have index : (base + BitVec.ofNat 8 (16 * n.val)).toNat = 0x50 + (16 * n.val + k) := by
    rw [BitVec.toNat_add, BitVec.toNat_ofNat, stands]
    omega
  have record : recordIndex (base + BitVec.ofNat 8 (16 * n.val)) = n := Fin.ext (by
    simp only [recordIndex, index, Fin.ofNat]
    omega)
  have byte : recordByte (base + BitVec.ofNat 8 (16 * n.val)) = k := by
    simp only [recordByte, index]
    omega
  rw [readReg_record s h (by omega) (by omega)]
  simp only [record, byte]

/-- R192: bytes 2 to 5 of a record are the base page, bytes 6 to 9 the limit page. -/
theorem readByte_page (w : WindowRecord) {k : Nat} (hk : k < 4) :
    w.readByte (2 + k) = fieldByte w.base k ∧ w.readByte (6 + k) = fieldByte w.limit k := by
  have low : 2 + k < 6 := by omega
  have high : ¬ 6 + k < 6 := by omega
  have page : 6 + k < 10 := by omega
  constructor
  · simp [WindowRecord.readByte, low, show 2 + k ≠ 1 by omega]
  · simp [WindowRecord.readByte, high, page, show 6 + k ≠ 1 by omega]

/-! ### Unassigned indices (R191) -/

/-- R191: the indices that no register of the summary stands at. -/
theorem readReg_unassigned (s : State) (h : Option LossRecord) {i : Byte}
    (unassigned : 4 ≤ i.toNat ∧ i.toNat < 8 ∨ 0x12 ≤ i.toNat ∧ i.toNat < 0x18 ∨ 0x1A ≤ i.toNat ∧ i.toNat < 0x20 ∨
      0x26 ≤ i.toNat ∧ i.toNat < 0x28 ∨ i.toNat = 0x2F ∨ 0x42 ≤ i.toNat ∧ i.toNat < 0x50 ∨
      0x50 ≤ i.toNat ∧ i.toNat < 0xD0 ∧ 10 ≤ i.toNat % 16 ∨ 0xD0 ≤ i.toNat) : readReg s h i = 0 := by
  by_cases inRecord : 0x50 ≤ i.toNat ∧ i.toNat < 0xD0
  · have beyond : 10 ≤ recordByte i := by
      simp only [recordByte]
      omega
    rw [readReg_record s h inRecord.1 inRecord.2]
    simp [WindowRecord.readByte, show recordByte i ≠ 0 by omega, show recordByte i ≠ 1 by omega,
      show ¬ recordByte i < 6 by omega, show ¬ recordByte i < 10 by omega]
  · have notHead : inLogHead i = false := by
      simp only [inLogHead, Bool.and_eq_false_iff, decide_eq_false_iff_not]
      omega
    unfold readReg
    split
    case h_29 => simp only [notHead, Bool.false_eq_true, if_false, if_neg inRecord]
    all_goals omega

/-! ### Counts (R192) -/

theorem toNat_ofNat_of_le {n : Nat} (small : n ≤ 16) : (BitVec.ofNat 8 n).toNat = n := by
  rw [BitVec.toNat_ofNat]
  omega

/-- A count over the 16 slots or memory tags. -/
theorem length_filter_finRange_le (p : Fin 16 → Bool) : ((List.finRange 16).filter p).length ≤ 16 :=
  (List.length_filter_le p _).trans (List.length_finRange (n := 16)).le

theorem liveCount_le (s : State) : liveCount s ≤ 16 := length_filter_finRange_le _

theorem freeCount_le (s : State) : freeCount s ≤ 16 := length_filter_finRange_le _

/-- Settles O50: each register by its own row of `readReg`, the counts within their byte (`liveCount_le`,
`freeCount_le`), the window records by `readReg_recordOf`, and the unassigned indices by `readReg_unassigned`. -/
theorem registerSummaryReads : Obligations.RegisterSummaryReads := by
  intro s h classCode fences log codes
  have code : ∀ c, classCode c = c.code.setWidth 8 := fun c => by subst codes; cases c <;> rfl
  refine ⟨⟨rfl, rfl, rfl, rfl⟩, ⟨rfl, rfl, rfl, rfl, fieldBytes_two _, (code _).symm, rfl⟩, ⟨rfl, ?result, rfl, rfl⟩,
    ⟨toNat_ofNat_of_le (liveCount_le s), toNat_ofNat_of_le (freeCount_le s), toNat_ofNat_of_le ?fences, rfl,
      ?state, ?ack⟩,
    ⟨rfl, toNat_ofNat_of_le ?records, rfl⟩, ?requestCapture, ?memoryCapture, fun i => readReg_unassigned s h,
    fun n w record => ?window⟩
  case result =>
    have shown : readReg s h 0x11 = s.port.result.code := rfl
    rw [shown]
    cases s.port.result <;> rfl
  case fences => exact le_trans fences (by decide)
  case state =>
    have shown : readReg s h 0x24 = s.quiesce.state.code := rfl
    rw [shown]
    cases s.quiesce.state <;> rfl
  case ack =>
    have shown : readReg s h 0x25 = (BitVec.ofBool s.quiesce.drnAck).setWidth 8 := rfl
    rw [shown]
    cases s.quiesce.drnAck <;> rfl
  case records => exact le_trans log (by decide)
  case requestCapture =>
    have shown : (readReg s h 0x28, readReg s h 0x29) = captureCodes s.acc.capture := rfl
    rw [shown]
    obtain _ | ⟨_ | _ | _, t⟩ := s.acc.capture <;> rfl
  case memoryCapture =>
    have shown : (readReg s h 0x2A, readReg s h 0x2B) = memCaptureCodes s.trk.capture := rfl
    rw [shown]
    obtain _ | ⟨_ | _, m⟩ := s.trk.capture <;> rfl
  case window =>
    have byte : ∀ {base : Byte} (k : Nat), base.toNat = 0x50 + k → k < 16 →
        readReg s h (base + BitVec.ofNat 8 (16 * n.val)) = w.readByte k := fun k stands hk =>
      record ▸ readReg_recordOf s h n stands hk
    have page : ∀ k, k < 4 → w.readByte (2 + k) = fieldByte w.base k ∧ w.readByte (6 + k) = fieldByte w.limit k :=
      fun k hk => readByte_page w hk
    refine ⟨byte 1 rfl (by decide), fun k => ?_, ?_, ?_⟩
    · have control : w.readByte 0 = w.control := rfl
      rw [byte 0 rfl (by decide), control, control_getLsbD, code]
      simp
    · rw [byte 5 rfl (by decide), byte 4 rfl (by decide), byte 3 rfl (by decide), byte 2 rfl (by decide)]
      exact fieldBytes_page w.base
    · rw [byte 9 rfl (by decide), byte 8 rfl (by decide), byte 7 rfl (by decide), byte 6 rfl (by decide)]
      exact fieldBytes_page w.limit

end Sys2Proof.Machine
end

section
/-! PROOFS. RST_N and the state after it (O54, O60). -/

namespace Sys2Proof.Machine

set_option Elab.async false

/-- The part as the reset ends: nothing is held yet, and the straps are sampled. -/
def resetSampled (straps : BitVec 2) (s : State) : State :=
  { resetHeld s with port := { (resetHeld s).port with straps := straps }, inReset := false }

theorem resetEnds_low (straps : BitVec 2) (s : State) :
    resetEnds straps false (resetHeld s) = resetSampled straps s := rfl

theorem resetEnds_high (straps : BitVec 2) (s : State) :
    resetEnds straps true (resetHeld s) =
      quiesceStart ((resetSampled straps s).setQuiesce { (resetSampled straps s).quiesce with drainHeld := true }) := by
  rw [resetEnds, if_pos rfl]
  rfl

/-- R164: a part at reset has nothing to drain and nothing to invalidate, so with DRN_REQ high it enters
QUIET at once. -/
theorem quiesceStart_reset (straps : BitVec 2) (s : State) :
    quiesceStart ((resetSampled straps s).setQuiesce { (resetSampled straps s).quiesce with drainHeld := true }) =
      (resetSampled straps s).setQuiesce
        { state := .quiet, commitPending := false, drainHeld := true, drnAck := true } := by
  have apart : TagsApart (resetSampled straps s) := List.nodup_nil
  have quiet : quietCondition (resetSampled straps s) = true :=
    (quietCondition_iff_units _).2 ⟨fun i => Vector.getElem_replicate (n := 16) (a := (none : Option Slot)) i.isLt,
      fun m => congrArg TrackerEntry.writing (Vector.getElem_replicate (n := 16) m.isLt), fun _ => nofun⟩
  have empty : ∀ e, pfAt (resetSampled straps s) e = none := fun e => Vector.getElem_replicate (n := 4) e.isLt
  have unchanged : afterInvalidation (resetSampled straps s) = resetSampled straps s :=
    afterInvalidation_self fun e x held => by simp [empty] at held
  rw [quiesceStart_idle (s := (resetSampled straps s).setQuiesce
    { (resetSampled straps s).quiesce with drainHeld := true }) apart quiet rfl, afterInvalidation_setQuiesce,
    unchanged]
  rfl

/-- Settles O54: held, the part is `resetHeld`; the reset's end samples the straps (`resetEnds_low`), and with DRN_REQ
high passes QUIESCING at once (`quiesceStart_reset`). -/
theorem powerOnResets : Obligations.PowerOnResets := by
  refine fun s straps drn => ⟨rfl, ?_, by decide⟩
  cases drn with
  | false => rfl
  | true =>
    have resets : exec (.powerOnReset false straps true) s = .next (powerOn false straps true s) := rfl
    rw [resets, powerOn, if_neg Bool.false_ne_true, resetEnds_high, quiesceStart_reset]
    rfl

/-- The state after reset is the one in which a power-on with the reset straps and DRN_REQ low ends. -/
theorem powerOn_reset : powerOn false Config.resetStraps false State.reset = State.reset := rfl

/-- Settles O60: the defaults index by index, and the invariants, which every power-on restores. -/
theorem resetStateLawful : Obligations.ResetStateLawful := by
  refine ⟨by decide +kernel, ?_⟩
  rw [← powerOn_reset]
  exact ⟨bounded_powerOn .., quiesceSafe_powerOn .., bufferWhole_powerOn .., tagsWhole_powerOn ..⟩

end Sys2Proof.Machine
end

section
/-! PROOFS. The examination of a request and the drain engine's test neither read nor change the management port, so the port may be set before an event's end as well as after it. -/

namespace Sys2Proof.Machine

set_option Elab.async false

/-- An operation that neither reads nor changes the management port. -/
def IgnoresPort (f : State → State) : Prop := ∀ (s : State) (p : ManagementPort), f (s.setPort p) = (f s).setPort p

theorem IgnoresPort.comp {f g : State → State} (hf : IgnoresPort f) (hg : IgnoresPort g) :
    IgnoresPort fun s => f (g s) := fun s p => by
  simp only [hg s p, hf (g s) p]

theorem IgnoresPort.foldl {α : Type} {f : State → α → State} (hf : ∀ a, IgnoresPort fun s => f s a)
    (l : List α) : IgnoresPort fun s => l.foldl f s := by
  induction l with
  | nil => exact fun _ _ => rfl
  | cons a l ih => exact ih.comp (hf a)

/-! ### Slots and the drain engine -/

theorem ignoresPort_offer (c : RequestClass) (r : OfferedRequest) : IgnoresPort (offer c r) := fun _ _ => by
  cases c <;> rfl

theorem ignoresPort_sealSlot (i : SlotIx) : IgnoresPort (sealSlot i) := fun s p => by
  have slot : slotAt (s.setPort p) i = slotAt s i := rfl
  simp only [sealSlot, slot]
  split
  · split <;> rfl
  · rfl

theorem ignoresPort_sealSlots (is : List SlotIx) : IgnoresPort (sealSlots is) :=
  .foldl (f := fun u i => sealSlot i u) ignoresPort_sealSlot is

theorem ignoresPort_sealAll : IgnoresPort sealAll := fun s p =>
  ignoresPort_sealSlots (s.buf.ages.filter (slotFilling s)) s p

theorem ignoresPort_sealLine (l : Line) : IgnoresPort (sealLine l) := fun s p => by
  have filling : fillingOfLine (s.setPort p) l = fillingOfLine s l := rfl
  simp only [sealLine, filling]
  split
  · exact ignoresPort_sealSlot _ s p
  · rfl

theorem ignoresPort_pressureSeal : IgnoresPort pressureSeal := fun s p => by
  have oldest : (s.setPort p).buf.ages.find? (slotFilling (s.setPort p)) = s.buf.ages.find? (slotFilling s) := rfl
  simp only [pressureSeal, oldest]
  split
  · exact ignoresPort_sealSlot _ s p
  · rfl

theorem ignoresPort_beginSlot (i : SlotIx) : IgnoresPort (beginSlot i) := fun s p => by
  have slot : slotAt (s.setPort p) i = slotAt s i := rfl
  simp only [beginSlot, slot]
  split <;> rfl

theorem ignoresPort_drainTest : IgnoresPort drainTest := fun s p => by
  have busy : issuing (s.setPort p) = issuing s := rfl
  have first : firstEligible (s.setPort p) = firstEligible s := rfl
  simp only [drainTest, busy, first]
  split
  · rfl
  · split
    · exact ignoresPort_beginSlot _ s p
    · rfl

/-! ### The read unit and the prefetch buffer -/

theorem ignoresPort_putRead (r : ReadRecord) : IgnoresPort (putRead r) := fun s p => by
  have held : readOf (s.setPort p) r.tag = readOf s r.tag := rfl
  simp only [putRead, held]
  split <;> rfl

theorem ignoresPort_demandRead (r : ReadRecord) : IgnoresPort (demandRead r) :=
  (ignoresPort_offer _ _).comp (ignoresPort_putRead _)

theorem ignoresPort_fallBack (t : Tag) : IgnoresPort (fallBack t) := fun s p => by
  have held : readOf (s.setPort p) t = readOf s t := rfl
  simp only [fallBack, held]
  split
  · exact ((ignoresPort_offer _ _).comp (ignoresPort_putRead _)) s p
  · rfl

theorem ignoresPort_fallBackAll (ts : List Tag) : IgnoresPort (fallBackAll ts) :=
  .foldl (f := fun u t => fallBack t u) ignoresPort_fallBack ts

theorem ignoresPort_spoilEntry (e : PfIx) : IgnoresPort (spoilEntry e) := fun s p => by
  have entry : pfAt (s.setPort p) e = pfAt s e := rfl
  simp only [spoilEntry, entry]
  split
  · rfl
  · split
    · rfl
    · exact (ignoresPort_fallBackAll _).comp (g := fun u => emptyPf [e] (withdraw .prefetch (.prefetch e) u))
        (fun _ _ => rfl) s p
    · rfl
    · rfl

theorem ignoresPort_writeReport (l : Line) : IgnoresPort (writeReport l) := fun s p => by
  have entry : pfOfLine (s.setPort p) l = pfOfLine s l := rfl
  simp only [writeReport, entry]
  split
  · exact ignoresPort_spoilEntry _ s p
  · rfl

theorem ignoresPort_trigger (l : Line) (w : Fin 8) : IgnoresPort (trigger l w) := fun s p => by
  have allowed : triggerAllowed l (s.setPort p) = triggerAllowed l s := rfl
  have found : victim (s.setPort p) = victim s := rfl
  simp only [trigger, allowed, found]
  split
  · split <;> rfl
  · rfl

theorem ignoresPort_readTrigger (r : ReadRecord) : IgnoresPort (readTrigger r) := fun s p => by
  unfold readTrigger
  split
  · split
    · exact ignoresPort_trigger _ _ s p
    · rfl
  · rfl

theorem ignoresPort_joinRead (r : ReadRecord) (e : PfIx) (x : PfEntry) (st : PfState) :
    IgnoresPort (joinRead r e x st) :=
  (ignoresPort_putRead _).comp (g := putPf e (some { x with state := st })) fun _ _ => rfl

theorem ignoresPort_serveRead (r : ReadRecord) (e : PfIx) (d : Lanes) : IgnoresPort (serveRead r e d) :=
  (ignoresPort_readTrigger r).comp (g := fun s => markMru e (answerRead (readData r d) s)) fun _ _ => rfl

theorem ignoresPort_routeRead (r : ReadRecord) : IgnoresPort (routeRead r) := fun s p => by
  have found : pfOfLine (s.setPort p) r.span.line = pfOfLine s r.span.line := rfl
  have entry (e : PfIx) : pfAt (s.setPort p) e = pfAt s e := rfl
  simp only [routeRead, found, entry]
  split
  · split
    · exact ignoresPort_demandRead r s p
    · split
      · exact ignoresPort_demandRead r s p
      · split
        · exact ignoresPort_serveRead r _ _ s p
        · exact ignoresPort_joinRead r _ _ _ s p
        · exact ignoresPort_joinRead r _ _ _ s p
        · exact ignoresPort_demandRead r s p
  · exact ignoresPort_demandRead r s p

theorem ignoresPort_directTest : IgnoresPort directTest := fun s p => by
  have live : noSlotLive (s.setPort p) = noSlotLive s := rfl
  simp only [directTest, live, State.setPort_rd]
  split
  · split
    · exact ((ignoresPort_offer _ _).comp (ignoresPort_putRead _)) s p
    · rfl
  · rfl

/-! ### The dispatch of a request -/

theorem ignoresPort_fenceTestFrom (l : List FenceRecord) : IgnoresPort (fenceTestFrom l) := by
  induction l with
  | nil => exact fun _ _ => rfl
  | cons f rest ih =>
    intro s p
    have blocked : fenceBlocked (s.setPort p) f = fenceBlocked s f := rfl
    simp only [fenceTestFrom, blocked]
    split
    · rfl
    · exact ih (completeFence f rest s) p

theorem ignoresPort_fenceTest : IgnoresPort fenceTest := fun s p => ignoresPort_fenceTestFrom s.fence.list s p

theorem ignoresPort_recordFence (t : Tag) : IgnoresPort (recordFence t) := fun s p => by
  simp only [recordFence, ignoresPort_sealAll s p]
  rfl

theorem ignoresPort_acceptFence (m : IReqMsg) (r : Request) : IgnoresPort (acceptFence m r) := fun s p => by
  by_cases room : s.fence.list.length < 4
  · rw [acceptFence_room m room, acceptFence_room (s := s.setPort p) m room]
    exact (ignoresPort_fenceTest.comp (ignoresPort_recordFence r.tag)).comp
      (g := fun u => setTag r.tag .fence (takeHead u)) (fun _ _ => rfl) s p
  · have full : 4 ≤ s.fence.list.length := Nat.le_of_not_lt room
    rw [acceptFence_full m full, acceptFence_full (s := s.setPort p) m full]
    rfl

theorem ignoresPort_mergeSlot (i : SlotIx) (r : Request) : IgnoresPort (mergeSlot i r) := fun s p => by
  have slot : slotAt (s.setPort p) i = slotAt s i := rfl
  simp only [mergeSlot, slot]
  split <;> rfl

theorem ignoresPort_answerWrite (i : SlotIx) (r : Request) : IgnoresPort (answerWrite i r) := fun s p => by
  have slot : slotAt (s.setPort p) i = slotAt s i := rfl
  simp only [answerWrite, addWaiter, slot]
  split
  · split <;> rfl
  · rfl

theorem ignoresPort_sealTriggers (i : SlotIx) (r : Request) (c : Classification) : IgnoresPort (sealTriggers i r c) :=
  fun s p => by
    have full : slotFull (s.setPort p) i = slotFull s i := rfl
    simp only [sealTriggers, full]
    split
    · exact ignoresPort_sealSlot i s p
    · rfl

theorem ignoresPort_finishWrite (i : SlotIx) (r : Request) (c : Classification) : IgnoresPort (finishWrite i r c) :=
  (ignoresPort_writeReport _).comp ((ignoresPort_sealTriggers i r c).comp (ignoresPort_answerWrite i r))

theorem ignoresPort_acceptWrite (m : IReqMsg) (r : Request) (c : Classification) : IgnoresPort (acceptWrite m r c) :=
  fun s p => by
    have target : mergeTarget r c (s.setPort p) = mergeTarget r c s := rfl
    have empty : firstEmptySlot (s.setPort p) = firstEmptySlot s := rfl
    simp only [acceptWrite, target, empty]
    split
    · exact (ignoresPort_finishWrite _ r c).comp ((ignoresPort_mergeSlot _ r).comp (g := takeHead) fun _ _ => rfl) s p
    · split
      · exact (ignoresPort_finishWrite _ r c).comp (g := fun u => openSlot _ r c (takeHead u)) (fun _ _ => rfl) s p
      · exact IgnoresPort.comp (f := setHead (some m)) (fun _ _ => rfl) ignoresPort_pressureSeal s p

theorem ignoresPort_acceptRead (r : Request) (c : Classification) : IgnoresPort (acceptRead r c) := fun s p => by
  have taken : setTag r.tag .read (takeHead (s.setPort p)) = (setTag r.tag .read (takeHead s)).setPort p := rfl
  simp only [acceptRead, taken]
  generalize setTag r.tag .read (takeHead s) = u
  have youngest : youngestOfLine (u.setPort p) r.span.line = youngestOfLine u r.span.line := rfl
  have covered (i : SlotIx) : slotCovers (u.setPort p) i r.span = slotCovers u i r.span := rfl
  have slots : slotsOfLine (u.setPort p) r.span.line = slotsOfLine u r.span.line := rfl
  simp only [youngest, covered, slots]
  split
  · split
    · rfl
    · exact ((ignoresPort_sealLine _).comp (ignoresPort_putRead _)) u p
  · exact ignoresPort_routeRead _ u p

theorem ignoresPort_acceptDirect (op : AccessOp) (r : Request) (c : Classification) :
    IgnoresPort (acceptDirect op r c) := by
  have entered : IgnoresPort fun s =>
      sealAll (putRead (directRecord op r c) (setTag r.tag (.direct op) (takeHead s))) :=
    (ignoresPort_sealAll.comp (ignoresPort_putRead _)).comp (g := fun s => setTag r.tag (.direct op) (takeHead s))
      fun _ _ => rfl
  cases op with
  | read => exact ignoresPort_directTest.comp entered
  | write => exact ignoresPort_directTest.comp ((ignoresPort_writeReport _).comp entered)

theorem ignoresPort_dispatchAccess (op : AccessOp) (m : IReqMsg) (r : Request) : IgnoresPort (dispatchAccess op m r) :=
  fun s p => by
    simp only [dispatchAccess, State.setPort_win]
    split
    · rfl
    · exact ignoresPort_acceptDirect _ r _ s p
    · exact ignoresPort_acceptWrite m r _ s p
    · exact ignoresPort_acceptWrite m r _ s p
    · exact ignoresPort_acceptRead r _ s p
    · exact ignoresPort_acceptRead r _ s p

theorem ignoresPort_dispatch (m : IReqMsg) (r : Request) : IgnoresPort (dispatch m r) := fun s p => by
  unfold dispatch
  split
  · exact ignoresPort_acceptFence m r s p
  · exact ignoresPort_dispatchAccess _ m r s p
  · exact ignoresPort_dispatchAccess _ m r s p
  · rfl

theorem ignoresPort_offerRequestError (k : RequestError) (t : Tag) : IgnoresPort (offerRequestError k t) :=
  fun s p => by
    simp only [offerRequestError, State.setPort_acc]
    split <;> rfl

theorem ignoresPort_dropInUse (r : Request) : IgnoresPort (dropInUse r) :=
  IgnoresPort.comp (f := setIrqBit .proto) (fun _ _ => rfl)
    ((ignoresPort_offerRequestError _ _).comp (g := takeHead) fun _ _ => rfl)

theorem ignoresPort_answerMalformed (k : RequestError) (r : Request) : IgnoresPort (answerMalformed k r) :=
  IgnoresPort.comp (f := setIrqBit .proto) (fun _ _ => rfl)
    ((ignoresPort_offerRequestError _ _).comp
      (g := fun u => pushResponse (errorAnswer r .malformed) (takeHead u)) fun _ _ => rfl)

/-! ### The event's end -/

theorem ignoresPort_examine (m : IReqMsg) : IgnoresPort (examine m) := fun s p => by
  have stopped : acceptStopped (s.setPort p) = acceptStopped s := rfl
  have tag (t : Tag) : tagState (s.setPort p) t = tagState s t := rfl
  simp only [examine, stopped, tag]
  split
  · rfl
  · split
    · exact ignoresPort_dropInUse _ s p
    · split
      · exact ignoresPort_answerMalformed _ _ s p
      · exact ignoresPort_dispatch m _ s p

theorem ignoresPort_finishEvent (s0 : State) : IgnoresPort (finishEvent s0) :=
  ignoresPort_drainTest.comp fun s p => by
    have ended : waitEnded s0 (s.setPort p) = waitEnded s0 s := rfl
    simp only [reexamine, ended, State.setPort_acc]
    split
    · split
      · exact ignoresPort_examine _ s p
      · rfl
    · rfl

end Sys2Proof.Machine
end

section
/-! PROOFS. The datapath resets by command: DP_RESET in an idle part (O52), DP_RESET_FORCE block by block (O53). -/

namespace Sys2Proof.Machine

set_option Elab.async false

/-! ### DP_RESET (R194, R74, R113) -/

theorem active_eq_false (x : TrackerEntry) : x.active = false ↔ x = .free ∨ ∃ n, x = .late n := by
  cases x <;> simp [TrackerEntry.active]

/-- R194: what an idle part is. -/
theorem idle_iff (s : State) :
    idle s = true ↔ (∀ i, slotAt s i = none) ∧ (∀ m, entryAt s m = .free ∨ ∃ n, entryAt s m = .late n) ∧
      (∀ t, tagState s t = .free) ∧ s.fence.list = [] := by
  simp only [idle, Bool.and_eq_true, noSlotLive_iff, allMemTags, allTags, List.all_eq_true, List.mem_finRange,
    forall_const, Bool.not_eq_true', active_eq_false, beq_iff_eq, List.isEmpty_iff, and_assoc]

theorem exec_dpReset {s : State} {f : Bool} (reset : s.inReset = false) (lands : Lands s f 0x10) :
    exec (.dpReset f) s = .next (ackByte (takeDpReset (landed s 0x10))) :=
  exec_command (b := { index := 0x10, value := 0x02, follows := f }) rfl rfl reset lands

/-- R74, R113: with no fence outstanding the reset of the fence unit is whole. -/
theorem takeDpReset_idle {s : State} (isIdle : idle s = true) :
    takeDpReset s =
      (((s.setPort { s.port with result := .done }).setFence { epoch := 0, list := [], loss := false }).setPf
        { entries := Vector.replicate 4 none, recency := [0, 1, 2, 3] }).setArb { s.arb with prefetch := [] } := by
  obtain ⟨-, -, -, fences⟩ := (idle_iff s).1 isIdle
  rw [takeDpReset, if_pos isIdle, ← fences]
  rfl

theorem takeDpReset_busy {s : State} (busy : ¬ idle s = true) : takeDpReset s = setResult .refused s := by
  rw [takeDpReset, if_neg busy]

/-- Settles O52: the byte runs the command (`exec_dpReset`), which is taken in an idle part (`idle_iff`,
`takeDpReset_idle`) and refused in any other (`takeDpReset_busy`). -/
theorem dpResetOnlyWhenIdle : Obligations.DpResetOnlyWhenIdle := by
  intro s f reset lands isIdle meaning
  have idles : idle (landed s 0x10) = true ↔ isIdle := by
    rw [meaning]
    exact idle_iff (landed s 0x10)
  rw [exec_dpReset reset lands]
  refine ⟨fun yes => ?_, fun no => ?_⟩
  · rw [takeDpReset_idle (idles.2 yes), ackByte_landed (p := { s.port with result := .done }) (i := 0x10) rfl rfl]
    simp only [landed, beginWrite, State.setPort, State.setFence, State.setPf, State.setArb, State.setWires,
      ManagementPort.acked]
  · rw [takeDpReset_busy (mt idles.1 no),
      ackByte_landed (p := { s.port with result := .refused }) (i := 0x10) rfl rfl]
    simp only [setResult, landed, beginWrite, State.setPort, State.setWires, ManagementPort.acked]

/-! ### The tag walk (R17) -/

theorem answerReset_eq (s : State) (t : Tag) :
    answerReset s t = s.setAcc { s.acc with
      tags := (answerReset s t).acc.tags
      queue := s.acc.queue ++ (resetAnswer t (tagState s t)).toList } := by
  unfold answerReset
  cases resetAnswer t (tagState s t) with
  | none => simp [State.setAcc]
  | some r => rfl

theorem resetAnswer_eq_none (t : Tag) (x : TagState) : resetAnswer t x = none ↔ x = .free ∨ x = .responding := by
  obtain _ | _ | _ | _ | (_ | _) | _ := x <;> simp [resetAnswer]

/-- R17: a waiting tag is answered; the others stay. -/
theorem tagState_answerReset (s : State) (t v : Tag) :
    tagState (answerReset s t) v = if v = t ∧ tagState s v ≠ .free then .responding else tagState s v := by
  unfold answerReset
  split
  · next r answer =>
    rw [tagState_pushResponse, resetAnswer_tag answer]
    by_cases same : t = v
    · subst same
      have waiting : tagState s t ≠ .free := fun free => by simp [free, resetAnswer] at answer
      simp [waiting]
    · simp [same, Ne.symm same]
  · next none =>
    split
    · next own =>
      obtain ⟨rfl, waiting⟩ := own
      exact ((resetAnswer_eq_none _ _).1 none).resolve_left waiting
    · rfl

theorem tagState_answerAll (ts : List Tag) (s : State) (v : Tag) :
    tagState (ts.foldl answerReset s) v = if v ∈ ts ∧ tagState s v ≠ .free then .responding else tagState s v := by
  induction ts generalizing s with
  | nil => simp
  | cons t ts ih =>
    rw [List.foldl_cons, ih, tagState_answerReset]
    by_cases same : v = t
    · subst same
      by_cases free : tagState s v = .free <;> simp [free]
    · simp [same]

/-- R17: the answers join the response queue in the order of the walk. -/
theorem answerAll_reset_eq {ts : List Tag} (nodup : ts.Nodup) (s : State) :
    ts.foldl answerReset s = s.setAcc { s.acc with
      tags := (ts.foldl answerReset s).acc.tags
      queue := s.acc.queue ++ ts.filterMap fun t => resetAnswer t (tagState s t) } := by
  induction ts generalizing s with
  | nil => simp [State.setAcc]
  | cons t ts ih =>
    obtain ⟨fresh, nodup⟩ := List.nodup_cons.1 nodup
    have later : (ts.filterMap fun v => resetAnswer v (tagState (answerReset s t) v)) =
        ts.filterMap fun v => resetAnswer v (tagState s v) := by
      refine List.filterMap_congr fun v hv => ?_
      have other : v ≠ t := fun same => fresh (same ▸ hv)
      rw [tagState_answerReset, if_neg fun own => other own.1]
    have head : [t].filterMap (fun v => resetAnswer v (tagState s v)) = (resetAnswer t (tagState s t)).toList := by
      cases answer : resetAnswer t (tagState s t) <;> simp [answer]
    have queue : (answerReset s t).acc.queue = s.acc.queue ++ (resetAnswer t (tagState s t)).toList := by
      rw [answerReset_eq]
      rfl
    have joined := List.filterMap_append (l := [t]) (l' := ts) (f := fun v => resetAnswer v (tagState s v))
    rw [List.foldl_cons, ih nodup, later, queue, List.append_assoc, ← head, ← joined]
    generalize (ts.foldl answerReset (answerReset s t)).acc.tags = tags
    rw [answerReset_eq]
    rfl

theorem answerAllReset_eq (s : State) :
    answerAllReset s = s.setAcc { s.acc with
      tags := (answerAllReset s).acc.tags
      queue := s.acc.queue ++ allTags.filterMap fun t => resetAnswer t (tagState s t) } := by
  have nodup : allTags.Nodup := List.nodup_finRange 32
  have walk := answerAll_reset_eq nodup s
  rwa [← answerAllReset] at walk

/-! ### The discarded slots (R44) -/

/-- R167: loss records handed to the fault log one after the other. -/
def logAll (rs : List LossRecord) (s : State) : State := rs.foldl (fun u r => addLoss r u) s

theorem logAll_cons (r : LossRecord) (rs : List LossRecord) (s : State) :
    logAll (r :: rs) s = logAll rs (addLoss r s) := rfl

theorem logAll_eq (rs : List LossRecord) (s : State) :
    logAll rs s = (s.setFlog (logAll rs s).flog).setIrq { s.irq with status := (logAll rs s).irq.status } := by
  induction rs generalizing s with
  | nil => rfl
  | cons r rs ih =>
    have one : addLoss r s =
        (s.setFlog (addLoss r s).flog).setIrq { s.irq with status := (addLoss r s).irq.status } := by
      unfold addLoss
      split <;> rfl
    rw [logAll_cons, ih]
    generalize logAll rs (addLoss r s) = t
    rw [one]
    rfl

/-- R167: the log stores what it has room for. -/
theorem logAll_records (rs : List LossRecord) (s : State) :
    (logAll rs s).flog.records = s.flog.records ++ rs.take (8 - s.flog.records.length) := by
  induction rs generalizing s with
  | nil => simp [logAll]
  | cons r rs ih =>
    rw [logAll_cons, ih, addLoss_flog]
    split
    · next room =>
      have left : 8 - s.flog.records.length = (8 - (s.flog.records.length + 1)) + 1 := by omega
      simp [left]
    · next full =>
      have none : 8 - s.flog.records.length = 0 := by omega
      simp [none]

/-- R167: the others are counted, up to 255. -/
theorem logAll_overflow (rs : List LossRecord) (s : State) :
    (logAll rs s).flog.overflow.toNat =
      min 255 (s.flog.overflow.toNat + (rs.length - (8 - s.flog.records.length))) := by
  have small := s.flog.overflow.isLt
  induction rs generalizing s with
  | nil =>
    simp only [logAll, List.foldl_nil, List.length_nil]
    omega
  | cons r rs ih =>
    rw [logAll_cons, ih _ (BitVec.isLt _), addLoss_flog]
    split
    · simp only [List.length_append, List.length_cons, List.length_nil]
      omega
    · simp only [bumpCount_toNat, List.length_cons]
      omega

/-- R173: LOG where a record is stored, LOG_OVF where one is counted. -/
theorem logAll_status (rs : List LossRecord) (s : State) :
    (logAll rs s).irq.status =
      s.irq.status ||| (if rs.take (8 - s.flog.records.length) = [] then 0 else 1) |||
        (if 8 - s.flog.records.length < rs.length then 2 else 0) := by
  induction rs generalizing s with
  | nil => simp [logAll]
  | cons r rs ih =>
    rw [logAll_cons, ih, addLoss_flog, addLoss_irq]
    split
    · next room =>
      have left : 8 - s.flog.records.length = 8 - (s.flog.records ++ [r]).length + 1 := by
        rw [List.length_append, List.length_singleton]
        omega
      have stored : ∀ (x : BitVec 5) (k : Nat), x ||| 1 ||| (if rs.take k = [] then 0 else 1) = x ||| 1 := fun x k => by
        split <;> simp [BitVec.or_assoc]
      simp only [left, stored, List.take_succ_cons, reduceCtorEq, if_false, List.length_cons, Nat.add_lt_add_iff_right]
    · next full =>
      have none : 8 - s.flog.records.length = 0 := by omega
      have counted : ∀ x : BitVec 5, x ||| 2 ||| (if 0 < rs.length then 2 else 0) = x ||| 2 := fun x => by
        split <;> simp [BitVec.or_assoc]
      simpa [none] using counted _

/-- R44: the records the discarded slots hand over, in the order of the age list. -/
def discards (s : State) : List LossRecord := s.buf.ages.filterMap fun i => (slotAt s i).map discardRecord

theorem discards_setAcc (s : State) (x : Acceptance) : discards (s.setAcc x) = discards s := rfl

theorem discardAll_eq (is : List SlotIx) (s : State) :
    is.foldl discardSlot s = logAll (is.filterMap fun i => (slotAt s i).map discardRecord) s := by
  induction is generalizing s with
  | nil => rfl
  | cons i is ih =>
    have slots : slotAt (discardSlot s i) = slotAt s := by
      have buf : (discardSlot s i).buf = s.buf := (frame_discardSlot s i).same .buf
      funext j
      rw [slotAt, slotAt, buf]
    rw [List.foldl_cons, ih, slots]
    cases hx : slotAt s i <;> simp [discardSlot, hx, logAll]

theorem discardSlots_eq (s : State) :
    discardSlots s = (logAll (discards s) s).setBuf { slots := Vector.replicate 16 none, ages := [] } := by
  rw [discardSlots, discardAll_eq, discards]

/-- R44: a byte is reported where it is valid and lies in no DONE piece. -/
theorem discardRecord_mask (x : Slot) (k : Nat) :
    (discardRecord x).mask.getLsbD k = true ↔ x.valid.getLsbD k = true ∧
      ∀ ps p, x.phase = .draining ps → p ∈ ps → p.outcome = .done → p.mask.getLsbD k = false := by
  have done : x.doneMask.getLsbD k = true ↔ ∃ p ∈ x.pieces, p.outcome = .done ∧ p.mask.getLsbD k = true := by
    rw [Slot.doneMask, ← List.foldl_filter (p := fun p : Piece => p.outcome == .done), getLsbD_foldl_mask]
    simp [and_assoc]
  have notDone : x.doneMask.getLsbD k = false ↔
      ∀ ps p, x.phase = .draining ps → p ∈ ps → p.outcome = .done → p.mask.getLsbD k = false := by
    rw [← Bool.not_eq_true, done]
    cases hx : x.phase with
    | filling hold => simp [Slot.pieces, hx]
    | sealed => simp [Slot.pieces, hx]
    | draining qs =>
      have pieces : x.pieces = qs := pieces_of_draining hx
      simp only [pieces, not_exists, not_and, Bool.not_eq_true, SlotPhase.draining.injEq]
      exact ⟨fun h ps p same hp => h p (same ▸ hp), fun h p hp => h qs p rfl hp⟩
  rw [← notDone]
  by_cases low : k < 64
  · simp [discardRecord, low]
  · simp [BitVec.getLsbD_of_ge _ _ (Nat.le_of_not_lt low)]

/-! ### The blocks cleared (R17, R44, R63, R75, R98, R114, R139, R149) -/

/-- R195: the reset but for the quiesce controller and the port. -/
def cleared (s : State) : State := forceTracker (emptyReady (forceUnits (discardSlots (answerAllReset s))))

theorem frame_cleared (s : State) :
    Frame [.acc, .buf, .flog, .irq, .drain, .fence, .rd, .pf, .arb, .trk] s (cleared s) :=
  ((((Frame.foldl _ frame_answerReset allTags s).mono.trans (frame_discardSlots _).mono).trans
    (frame_forceUnits _).mono).trans (frame_setArb _ _).mono).trans (frame_setTrk _ _).mono

theorem ignoresPort_addLoss (r : LossRecord) : IgnoresPort (addLoss r) := fun s p => by
  by_cases room : s.flog.records.length < 8
  · simp only [addLoss, State.setPort_flog, room, if_true]
    rfl
  · simp only [addLoss, State.setPort_flog, room, if_false]
    rfl

theorem ignoresPort_cleared : IgnoresPort cleared := by
  have answered : IgnoresPort answerAllReset := .foldl (f := answerReset) (fun t s p => by
    have tag : tagState (s.setPort p) t = tagState s t := rfl
    simp only [answerReset, tag]
    split <;> rfl) allTags
  have discarded : IgnoresPort discardSlots := fun s p => by
    have logged : IgnoresPort (logAll (discards s)) :=
      .foldl (f := fun u r => addLoss r u) ignoresPort_addLoss (discards s)
    have same : discards (s.setPort p) = discards s := rfl
    rw [discardSlots_eq, discardSlots_eq, same, logged s p]
    rfl
  exact IgnoresPort.comp (f := fun s => forceTracker (emptyReady (forceUnits s))) (fun _ _ => rfl)
    (discarded.comp answered)

/-- R195: what is cleared, block by block. -/
theorem cleared_eq (s : State) :
    cleared s =
      { s with
        acc :=
          { s.acc with
            tags := (answerAllReset s).acc.tags
            queue := s.acc.queue ++ allTags.filterMap fun t => resetAnswer t (tagState s t) }
        buf := { slots := Vector.replicate 16 none, ages := [] }
        drain := { queue := [] }
        fence := { epoch := 0, list := [], loss := false }
        rd := { reads := [] }
        pf := { entries := Vector.replicate 4 none, recency := [0, 1, 2, 3] }
        trk := { s.trk with entries := Vector.ofFn fun m => (s.trk.entries[m]).force (reclaimTicks s) }
        arb := { s.arb with demand := [], drain := [], prefetch := [] }
        flog := (logAll (discards s) (answerAllReset s)).flog
        irq := { s.irq with status := (logAll (discards s) (answerAllReset s)).irq.status } } := by
  have walk := answerAllReset_eq s
  have same : discards (answerAllReset s) = discards s := by rw [walk, discards_setAcc]
  rw [cleared, discardSlots_eq, same, logAll_eq]
  generalize logAll (discards s) (answerAllReset s) = t
  generalize (answerAllReset s).acc.tags = tags at walk ⊢
  rw [walk]
  simp only [forceTracker, emptyReady, forceUnits, PrefetchBuffer.reset, reclaimTicks, State.setAcc, State.setBuf,
    State.setDrain, State.setFence, State.setRd, State.setPf, State.setTrk, State.setArb, State.setFlog, State.setIrq]

/-! ### DP_RESET_FORCE (R195, R163) -/

/-- R163: the quiesce controller comes last. -/
theorem forceQuiesce_eq (s : State) :
    forceQuiesce s = (s.setQuiesce s.quiesce.settled).setPort
      { s.port with result := if s.quiesce.commitPending then .aborted else s.port.result } := by
  unfold forceQuiesce
  cases s.quiesce.commitPending <;> rfl

/-- R195: the state in which a forced reset leaves the part, before its event ends. -/
def forced (s : State) : State :=
  ((cleared s).setQuiesce s.quiesce.settled).setPort
    { s.port with result := if s.quiesce.commitPending then .aborted else .done }

theorem takeDpResetForce_eq (s : State) : takeDpResetForce s = finishEvent s (forced s) := by
  have quiesce : (cleared s).quiesce = s.quiesce := (frame_cleared s).same .quiesce
  have reset : takeDpResetForce s = finishEvent s (forceQuiesce (cleared (setResult .done s))) := rfl
  rw [reset, forceQuiesce_eq, setResult, ignoresPort_cleared, State.setPort_quiesce, quiesce]
  simp only [forced, State.setPort, State.setQuiesce, quiesce]

/-- R189: the port's pointer and transfer take no part in the reset. -/
theorem forced_landed (s : State) (i : Byte) :
    forced (landed s i) =
      (forced (s.setWires Wires.idle)).setPort
        { (forced (s.setWires Wires.idle)).port with index := i, transfer := .write } := by
  rw [forced, landed, beginWrite, ignoresPort_cleared]
  rfl

theorem exec_dpResetForce {s : State} {f : Bool} (reset : s.inReset = false) (lands : Lands s f 0x10) :
    exec (.dpResetForce f) s = .next (ackByte (takeDpResetForce (landed s 0x10))) :=
  exec_command (b := { index := 0x10, value := 0x03, follows := f }) rfl rfl reset lands

/-- The byte's acknowledge follows the event's end, which leaves the port alone. -/
theorem exec_dpResetForce_forced {s : State} {f : Bool} (reset : s.inReset = false) (lands : Lands s f 0x10)
    {u v : State} (hu : u = forced (s.setWires Wires.idle)) (hv : v = finishEvent (s.setWires Wires.idle) u) :
    exec (.dpResetForce f) s =
      .next { v with port := u.port.acked 0x10, wires := { v.wires with ack := some true } } := by
  have begun : finishEvent (landed s 0x10) = finishEvent (s.setWires Wires.idle) := rfl
  rw [exec_dpResetForce reset lands, takeDpResetForce_eq, begun, forced_landed, ignoresPort_finishEvent, ← hu, ← hv]
  rfl

theorem answers_eq (s : State) :
    (allTags.filterMap fun t => resetAnswer t (tagState s t)) =
      (List.finRange 32).filterMap fun t =>
        match tagState s t with
        | .read => some (.rdataError t .reset)
        | .direct .read => some (.rdataError t .reset)
        | .direct .write => some (.wackError t .reset)
        | .confirmWrite => some (.wackError t .reset)
        | .fence => some (.fack t true)
        | .responding => none
        | .free => none := by
  refine List.filterMap_congr fun t _ => ?_
  obtain _ | _ | _ | _ | (_ | _) | _ := tagState s t <;> rfl

/-- R139: ISSUED becomes LATE, BACKOFF becomes FREE. -/
theorem force_eq (n : Nat) (x : TrackerEntry) :
    x.force n =
      match x with
      | .issued _ _ _ => .late n
      | .late k => .late k
      | _ => .free := by
  cases x <;> rfl

/-- R17: after the walk every tag that was in use has its response in the queue. -/
theorem tagState_forced (s : State) (t : Tag) :
    tagState (forced s) t = if tagState s t = .free then .free else .responding := by
  have tags : tagState (forced s) t = tagState (answerAllReset s) t := by
    rw [forced, cleared_eq]
    generalize answerAllReset s = answered
    rfl
  rw [tags, answerAllReset, tagState_answerAll]
  by_cases free : tagState s t = .free <;> simp [free, allTags]

theorem entryAt_forced (s : State) (m : MemTag) : entryAt (forced s) m = (entryAt s m).force (reclaimTicks s) := by
  rw [forced, cleared_eq]
  exact Vector.getElem_ofFn m.isLt

/-- R44, R167: the log and the status once every discarded slot is recorded. -/
theorem forced_log (s : State) :
    (forced s).flog = (logAll (discards s) (answerAllReset s)).flog ∧
      (forced s).irq.status = (logAll (discards s) (answerAllReset s)).irq.status := by
  rw [forced, cleared_eq]
  generalize logAll (discards s) (answerAllReset s) = logged
  generalize answerAllReset s = answered
  exact ⟨rfl, rfl⟩

/-- Settles O53: the byte runs the command (`exec_dpResetForce_forced`), which leaves each block as `cleared_eq` and
`tagState_forced` say; the log takes what it has room for (`logAll_records`, `logAll_overflow`, `logAll_status`), and a
discarded slot's bytes are those of `discardRecord_mask`. -/
theorem dpResetForceClears : Obligations.DpResetForceClears := by
  refine ⟨fun s f reset lands => ?_, fun x => ⟨rfl, discardRecord_mask x⟩⟩
  refine ⟨_, _, rfl, exec_dpResetForce_forced reset lands rfl rfl, ?_, tagState_forced _, fun m => ?_,
    fun ds room discarded left => ?_⟩
  · have answers := answers_eq (s.setWires Wires.idle)
    rw [forced, cleared_eq, answers]
    generalize logAll _ (answerAllReset (s.setWires Wires.idle)) = logged
    generalize answerAllReset (s.setWires Wires.idle) = answered
    rfl
  · rw [entryAt_forced, force_eq]
    rfl
  · obtain ⟨flog, status⟩ := forced_log (s.setWires Wires.idle)
    have records : discards (s.setWires Wires.idle) = ds := discarded.symm
    have answered := Frame.foldl _ frame_answerReset allTags (s.setWires Wires.idle)
    have sameLog : (answerAllReset (s.setWires Wires.idle)).flog = s.flog := answered.same .flog
    have sameIrq : (answerAllReset (s.setWires Wires.idle)).irq = s.irq := answered.same .irq
    rw [flog, status, records, left, ← sameLog, ← sameIrq]
    exact ⟨logAll_records _ _, logAll_overflow _ _, logAll_status _ _⟩

end Sys2Proof.Machine
end

section
/-! PROOFS. A step takes the front command (O1), and every command completes and leaves the queue as it is (O2). -/

namespace Sys2Proof.Machine

set_option Elab.async false

/-! ### A step (log entry 10) -/

theorem step_front (c : Instr) (rest : List Instr) (s : State) :
    step (s.setPending (c :: rest)) = exec c (s.setPending rest) := rfl

theorem step_idle {s : State} (empty : s.pending = []) : step s = .next s := by
  unfold step
  rw [empty]

/-- Settles O1: a step is `exec` of the front command (`step_front`), or idles (`step_idle`). -/
theorem stepTakesFront : Obligations.StepTakesFront :=
  ⟨step_front, fun _ => step_idle⟩

/-! ### Commands complete (log entry 23) -/

/-- The outcome is a next state that keeps the queue of `s`. -/
def CompletesFrom (s : State) (o : Outcome) : Prop := ∃ t : State, o = .next t ∧ t.pending = s.pending

/-- An event completes; the queue is none of the blocks that it may change. -/
theorem event_completes {bs : List Block} {f : State → State} (frame : ∀ u, Frame bs u (f u)) (s : State)
    (kept : .pending ∉ bs := by decide) : CompletesFrom s (event s f) := by
  refine ⟨_, rfl, ?_⟩
  split
  · rfl
  · exact (frame (s.setWires Wires.idle)).same .pending kept

/-- R190: a data byte completes, whatever register its command names. -/
theorem exec_portByte_completes {c : Instr} {b : PortByte} (byte : portByte c = some b) (s : State) :
    CompletesFrom s (exec c s) := by
  rw [exec_portByte byte]
  exact event_completes (frame_portWrite b.follows b.index b.value) s

/-- R164: leaving RUN as the reset ends does not touch the queue. -/
theorem resetEnds_pending (straps : BitVec 2) (drnReq : Bool) (s : State) :
    (resetEnds straps drnReq s).pending = s.pending := by
  unfold resetEnds
  split
  · exact (frame_quiesceStart _).same .pending
  · rfl

/-- R197: unlike `State.reset`, whose queue is empty, a reset keeps the commands that wait. -/
theorem powerOn_pending (held : Bool) (straps : BitVec 2) (drnReq : Bool) (s : State) :
    (powerOn held straps drnReq s).pending = s.pending := by
  unfold powerOn
  split
  · rfl
  · exact resetEnds_pending straps drnReq (resetHeld s)

/-- Settles O2: a data byte of the management port completes (`exec_portByte_completes`), every other command but
POWER_ON_RESET and the two of MREQ_READY is an event whose frame leaves out the queue (`event_completes`), and a reset
keeps the queue (`powerOn_pending`). -/
theorem everyCommandCompletes : Obligations.EveryCommandCompletes := by
  intro c s
  cases c with
  | requestPresented msg => exact event_completes (frame_present msg) s
  | responseSent => exact event_completes frame_sendResponse s
  | holdTimerExpiry i => exact event_completes (frame_holdExpires i) s
  | mreqReadyRise => exact ⟨_, rfl, rfl⟩
  | mreqReadyFall => exact ⟨_, rfl, rfl⟩
  | grant => exact event_completes frame_grantStep s
  | done m d => exact event_completes (frame_takeDone m d) s
  | defer m => exact event_completes (frame_takeDefer m) s
  | fault m => exact event_completes (frame_takeFault m) s
  | badResp m => exact event_completes (frame_badResponse m) s
  | responseTimerExpiry m => exact event_completes (frame_responseExpires m) s
  | backoffTimerExpiry m => exact event_completes (frame_backoffExpires m) s
  | reclaimTimerExpiry m => exact event_completes (frame_reclaimExpires m) s
  | drnReqRise => exact event_completes frame_drainRises s
  | drnReqFall => exact event_completes frame_drainFalls s
  | indexPointerWrite a i => exact event_completes (frame_pointerWrite a i) s
  | logHeadRead a more => exact event_completes (frame_portRead a more) s
  | readTransfer a more => exact event_completes (frame_portRead a more) s
  | powerOnReset held straps drnReq => exact ⟨_, rfl, powerOn_pending held straps drnReq s⟩
  | ageCountTick => exact event_completes frame_tick s
  | commit | dpReset | dpResetForce | logPop | logClearOvf | protoClear | unknownCommand | interruptStatusWrite
  | interruptMaskWrite | responseTimeoutLowWrite | responseTimeoutHighWrite | stagedTableWrite | registerWrite =>
    exact exec_portByte_completes rfl s

end Sys2Proof.Machine
end
